-- ==== Sys2Proof/Word.lean ====
section
/-!
DEFINITION. The widths of the machine: a stored colour byte, a timing code, a command word.
-/

namespace Sys2Proof

/-- One cell of the Pixel Color Store, and one colour channel (10_state.md R22, 30_encoding.md R84). -/
abbrev Byte := BitVec 8

/-- One timing code of the Pulse Buffer, `CODE_W` = 16 bits (00_scope.md R8, 30_encoding.md R93). -/
abbrev Code := BitVec 16

/-- One command word (30_encoding.md R80). -/
abbrev Word := BitVec 32

end Sys2Proof
end

