-- ==== Sys2Proof/Config.lean ====
section
/-!
DEFINITION. What a platform fixes (00_scope.md R9, 10_state.md R33), the answers a collaborator call can
have (00_scope.md R14, R15), and the values the spec leaves free, as constants without a body.
-/

namespace Sys2Proof

/-- The opaque payload type `PerErr` of the PWM/DMA peripheral (30_encoding.md R91): the block passes a
value on and never looks into it.  DESIGN CHOICE (notes/assumptions/2.md): a value is named by a number. -/
structure PerErr where
  native : Nat
  deriving DecidableEq, Repr, Inhabited

/-- The opaque payload type `ExpErr` of the expander driver (30_encoding.md R91).  `invalidInputData` is
the one value the block itself creates; DESIGN CHOICE (notes/assumptions/2.md): any other is a number. -/
inductive ExpErr where
  | invalidInputData
  | native (code : Nat)
  deriving DecidableEq, Repr, Inhabited

/-- The environment's answer to a fallible call (00_scope.md R14, R15): `Ok`, `Err(e)` or never. -/
inductive Reply (ε : Type) where
  | ok
  | err (e : ε)
  | never
  deriving DecidableEq, Repr, Inhabited

/-- How a call without a result ends (00_scope.md R14, R15): it returns, or it never does. -/
inductive Return where
  | returns
  | never
  deriving DecidableEq, Repr, Inhabited

/-- The order of the two channel writes of a reverse DRIVE_MOTOR (42_channel_mapper.md R184). -/
inductive ReverseWriteOrder where
  | dutyFirst
  | zeroFirst
  deriving DecidableEq, Repr, Inhabited

/-- The open parameters (00_scope.md R9).  No command writes them (10_state.md R33).  The function `H` of
R9 is given by its values on the two bit codes; its value on `TERM` is 0 (41_show.md R146). -/
structure Config where
  t0h : Code
  t1h : Code
  term : Code
  /-- `H(T0H)`, in ticks -/
  highT0H : Nat
  /-- `H(T1H)`, in ticks -/
  highT1H : Nat
  /-- the opaque setting `PWM_PRESCALER` -/
  pwmPrescaler : Nat
  /-- `TICK_NS` is the positive rational `tickNsNum / tickNsDen`; no rule depends on it (92_eei_decisions.md D11) -/
  tickNsNum : Nat
  tickNsDen : Nat
  storeInit : Vector Byte 15
  reclaimOnError : Bool
  expanderAddr : Nat
  prescale50Hz : Nat
  /-- `N_CHANNELS`; no rule reads it -/
  nChannels : Nat
  servoCh : Vector Nat 8
  /-- the ordered pairs `(p0, p1)` of 42_channel_mapper.md R171 -/
  motorPair : Vector (Nat × Nat) 4
  reverseWriteOrder : ReverseWriteOrder
  deriving DecidableEq, Repr, Inhabited

/-- The side conditions the spec puts on a configuration: the three codes differ (00_scope.md R10), a high
time is at most one bit period (R9, 41_show.md R146), the tick is positive (R9), and the two channels of
a motor differ (42_channel_mapper.md R171). -/
abbrev Config.Valid (c : Config) : Prop :=
  (c.t0h ≠ c.t1h ∧ c.t0h ≠ c.term ∧ c.t1h ≠ c.term) ∧
  (c.highT0H ≤ 20 ∧ c.highT1H ≤ 20) ∧
  (0 < c.tickNsNum ∧ 0 < c.tickNsDen) ∧
  ∀ m : Fin 4, c.motorPair[m].1 ≠ c.motorPair[m].2

/-! The parameters of the machine at hand.  Each is a constant without a body: nothing in Lean can evaluate
it.  Values that must differ are images of different points under an arbitrary permutation, so that every
valid choice is covered and no invalid one is (notes/assumptions/12.md). -/

opaque Config.boardCode : Equiv.Perm Code
opaque Config.boardHighT0H : Fin 21
opaque Config.boardHighT1H : Fin 21
opaque Config.boardPwmPrescaler : Nat
opaque Config.boardTickNsNum : Nat
opaque Config.boardTickNsDen : Nat
opaque Config.boardStoreInit : Vector Byte 15
opaque Config.boardReclaimOnError : Bool
opaque Config.boardExpanderAddr : Nat
opaque Config.boardPrescale50Hz : Nat
opaque Config.boardNChannels : Nat
opaque Config.boardServoCh : Vector Nat 8
opaque Config.boardMotorChannel : Fin 4 → Equiv.Perm Nat
opaque Config.boardReverseWriteOrder : ReverseWriteOrder

/-- The configuration of the machine that `State.reset` describes: every parameter open. -/
def Config.board : Config where
  t0h := Config.boardCode 0
  t1h := Config.boardCode 1
  term := Config.boardCode 2
  highT0H := Config.boardHighT0H.val
  highT1H := Config.boardHighT1H.val
  pwmPrescaler := Config.boardPwmPrescaler
  tickNsNum := Config.boardTickNsNum + 1
  tickNsDen := Config.boardTickNsDen + 1
  storeInit := Config.boardStoreInit
  reclaimOnError := Config.boardReclaimOnError
  expanderAddr := Config.boardExpanderAddr
  prescale50Hz := Config.boardPrescale50Hz
  nChannels := Config.boardNChannels
  servoCh := Config.boardServoCh
  motorPair := Vector.ofFn fun m => (Config.boardMotorChannel m 0, Config.boardMotorChannel m 1)
  reverseWriteOrder := Config.boardReverseWriteOrder

/-! Free values, each applied to a counter of State so that every use has a fresh one. -/

/-- What a setter call of the PWM/DMA peripheral does where the script has ended (notes/assumptions/3.md). -/
opaque Config.freeSetter : Nat → Return
/-- The answer of `pwm.load` where the script has ended. -/
opaque Config.freeLoad : Nat → Reply PerErr
/-- What `pwm.wait_and_split` does where the script has ended. -/
opaque Config.freeSplit : Nat → Return
/-- The answer of an `exp.*` call where the script has ended. -/
opaque Config.freeExp : Nat → Reply ExpErr
/-- How many periods of a frame reached the line when the spec does not say (93_implementation_defined.md U11). -/
opaque Config.freeSent : Nat → Nat
/-- The Pulse Buffer after a reset: any value (93_implementation_defined.md U14). -/
opaque Config.freePulse : Nat → Vector Code 98

end Sys2Proof
end

