-- ==== Sys2Proof/Syntax.lean ====
section
/-!
DEFINITION. The commands of the block, one constructor per row of spec/opcode_table.json
(30_encoding.md R82), over decoded operands.
-/

namespace Sys2Proof

/-- A colour at the command port, in (R, G, B) order (00_scope.md R17, 30_encoding.md R94). -/
structure Rgb where
  r : Byte
  g : Byte
  b : Byte
  deriving DecidableEq, Repr, Inhabited

/-- The `dir` operand of DRIVE_MOTOR (30_encoding.md R84): field value 0 is forward, 1 is reverse. -/
inductive Direction where
  | forward
  | reverse
  deriving DecidableEq, Repr, Inhabited

/-- The seven commands (30_encoding.md R82).  Operands are the unsigned integers of R84; a slot that
indexes a table of fixed length is a `Fin`, a colour channel is a byte.  CLEAR_PIXEL is SET_PIXEL with
black (R96) and has no constructor. -/
inductive Instr where
  | init
  | setPixel (p : Nat) (c : Rgb)
  | setAllPixels (c : Rgb)
  | showFrame
  | getColors
  | moveServo (servo : Fin 8) (deg : Nat)
  | driveMotor (motor : Fin 4) (dir : Direction) (speed : Nat)
  deriving DecidableEq, Repr, Inhabited

/-- Black: all three channels at the bottom of their range (40_pixel_store.md R115). -/
def Rgb.black : Rgb := ⟨0, 0, 0⟩

/-- The pseudo-instruction CLEAR_PIXEL `p` (30_encoding.md R96, 40_pixel_store.md R115). -/
def Instr.clearPixel (p : Nat) : Instr := .setPixel p .black

end Sys2Proof
end

