-- ==== Sys2Proof/WellFormed.lean ====
section
/-!
DEFINITION. The operand ranges that the fields of a command word admit (30_encoding.md R84).
-/

namespace Sys2Proof

/-- The operands fit their fields (30_encoding.md R84): `p` in 0..7, `deg` in 0..65535, `speed` in
0..255.  The other operands cannot leave their range, by their types. -/
def Instr.wf : Instr → Bool
  | .init => true
  | .setPixel p _ => decide (p < 8)
  | .setAllPixels _ => true
  | .showFrame => true
  | .getColors => true
  | .moveServo _ deg => decide (deg < 65536)
  | .driveMotor _ _ speed => decide (speed < 256)

end Sys2Proof
end

