-- ==== Sys2Proof/Decode.lean ====
section
/-!
DEFINITION. The decoder of command words, total on all 32-bit words and rejecting by name
(30_encoding.md R80 to R88), and after it the encoder (R96).
-/

namespace Sys2Proof

/-- Why a word is invalid (30_encoding.md R86). -/
inductive DecodeError where
  /-- the opcode is `0x0` or `0x8` to `0xF` -/
  | undefinedOpcode (opcode : Nat)
  /-- the opcode is one of `0x1` to `0x7` and a bit its format marks `0` is 1 -/
  | reservedBitSet (opcode : Nat)
  deriving DecidableEq, Repr, Inhabited

/-- The slice `w[hi:lo]` as an unsigned number (00_scope.md R11). -/
def slice (w : Word) (hi lo : Nat) : Nat := (w.extractLsb hi lo).toNat

/-- The byte `w[lo+7:lo]`. -/
def byteAt (w : Word) (lo : Nat) : Byte := w.extractLsb' lo 8

/-- The colour in `w[23:0]`: `r`, `g`, `b` from high to low (30_encoding.md R81, R84). -/
def colourField (w : Word) : Rgb := ⟨byteAt w 16, byteAt w 8, byteAt w 0⟩

/-- The `dir` field value 0 is forward, 1 is reverse (30_encoding.md R84). -/
def directionOf (f : Nat) : Direction := if f = 0 then .forward else .reverse

/-- The direction's field value (30_encoding.md R84). -/
def directionBit : Direction → Nat
  | .forward => 0
  | .reverse => 1

/-- `i` when the reserved bits read zero, else the rejection of R86. -/
def whenClear (opcode reserved : Nat) (i : Instr) : Except DecodeError Instr :=
  if reserved = 0 then .ok i else .error (.reservedBitSet opcode)

/-- The decoder (30_encoding.md R81 to R84, R86): every 32-bit word is one of the seven commands with
its fields, or invalid. -/
def decode (w : Word) : Except DecodeError Instr :=
  match slice w 31 28 with
  | 1 => whenClear 1 (slice w 27 0) .init
  | 2 => whenClear 2 (slice w 27 27) (.setPixel (slice w 26 24) (colourField w))
  | 3 => whenClear 3 (slice w 27 24) (.setAllPixels (colourField w))
  | 4 => whenClear 4 (slice w 27 0) .showFrame
  | 5 => whenClear 5 (slice w 27 0) .getColors
  | 6 => whenClear 6 (slice w 27 27 + slice w 23 16)
      (.moveServo (Fin.ofNat 8 (slice w 26 24)) (slice w 15 0))
  | 7 => whenClear 7 (slice w 27 26 + slice w 23 9)
      (.driveMotor (Fin.ofNat 4 (slice w 25 24)) (directionOf (slice w 8 8)) (slice w 7 0))
  | opcode => .error (.undefinedOpcode opcode)

/-- `r × 2^16 + g × 2^8 + b` (30_encoding.md R96). -/
def encodeColour (c : Rgb) : Nat := c.r.toNat * 2 ^ 16 + c.g.toNat * 2 ^ 8 + c.b.toNat

/-- The word of a command (30_encoding.md R96, the table's own sums). -/
def encode : Instr → Word
  | .init => 0x10000000#32
  | .setPixel p c => BitVec.ofNat 32 (0x20000000 + p * 2 ^ 24 + encodeColour c)
  | .setAllPixels c => BitVec.ofNat 32 (0x30000000 + encodeColour c)
  | .showFrame => 0x40000000#32
  | .getColors => 0x50000000#32
  | .moveServo servo deg => BitVec.ofNat 32 (0x60000000 + servo.val * 2 ^ 24 + deg)
  | .driveMotor motor dir speed =>
    BitVec.ofNat 32 (0x70000000 + motor.val * 2 ^ 24 + directionBit dir * 2 ^ 8 + speed)

/-- One row of the opcode table: a word selects the row when `w AND mask = pattern` (30_encoding.md R82). -/
structure OpcodeRow where
  mnemonic : String
  pattern : Word
  mask : Word
  deriving DecidableEq, Repr

/-- The row selects the word (30_encoding.md R82). -/
def rowSelects (row : OpcodeRow) (w : Word) : Bool := w &&& row.mask == row.pattern

/-- The opcode table (30_encoding.md R82). -/
def opcodeRows : List OpcodeRow :=
  [⟨"INIT", 0x10000000#32, 0xFFFFFFFF#32⟩,
   ⟨"SET_PIXEL", 0x20000000#32, 0xF8000000#32⟩,
   ⟨"SET_ALL_PIXELS", 0x30000000#32, 0xFF000000#32⟩,
   ⟨"SHOW", 0x40000000#32, 0xFFFFFFFF#32⟩,
   ⟨"GET_COLORS", 0x50000000#32, 0xFFFFFFFF#32⟩,
   ⟨"MOVE_SERVO", 0x60000000#32, 0xF8FF0000#32⟩,
   ⟨"DRIVE_MOTOR", 0x70000000#32, 0xFCFFFE00#32⟩]

/-- The row of the table that a command belongs to (30_encoding.md R82). -/
def rowOf : Instr → OpcodeRow
  | .init => ⟨"INIT", 0x10000000#32, 0xFFFFFFFF#32⟩
  | .setPixel _ _ => ⟨"SET_PIXEL", 0x20000000#32, 0xF8000000#32⟩
  | .setAllPixels _ => ⟨"SET_ALL_PIXELS", 0x30000000#32, 0xFF000000#32⟩
  | .showFrame => ⟨"SHOW", 0x40000000#32, 0xFFFFFFFF#32⟩
  | .getColors => ⟨"GET_COLORS", 0x50000000#32, 0xFFFFFFFF#32⟩
  | .moveServo _ _ => ⟨"MOVE_SERVO", 0x60000000#32, 0xF8FF0000#32⟩
  | .driveMotor _ _ _ => ⟨"DRIVE_MOTOR", 0x70000000#32, 0xFCFFFE00#32⟩

/-- The instruction read from a table word of `nbits` bits: the port takes whole 32-bit words
(30_encoding.md R80), and every bit above `nbits` is 0. -/
def decodeTableWord (nbits w : Nat) : Option Instr :=
  if nbits ≤ 32 then
    match decode (BitVec.ofNat 32 (w % 2 ^ nbits)) with
    | .ok i => some i
    | .error _ => none
  else none

end Sys2Proof
end

