-- ==== Sys2Proof/Machine/State.lean ====
section
/-!
DEFINITION. The state of the machine as plain data, its value after reset, and the reasons a step can stop.
-/

namespace Sys2Proof.Machine

/-- `tx_state` (10_state.md R25): `Idle` when the NPE holds the peripheral handle and the Pulse Buffer,
`Transmitting` when they are loaned and not reclaimed. -/
inductive TxState where
  | idle
  | transmitting
  deriving DecidableEq, Repr, Inhabited

/-- The one counter mode the block sets (10_state.md R28). -/
inductive CounterMode where
  | up
  deriving DecidableEq, Repr, Inhabited

/-- The one loop mode the block sets: non-looping, single shot (10_state.md R28). -/
inductive LoopMode where
  | disabled
  deriving DecidableEq, Repr, Inhabited

/-- The one load mode the block sets (10_state.md R28). -/
inductive LoadMode where
  | common
  deriving DecidableEq, Repr, Inhabited

/-- A configuration call of the PWM/DMA peripheral (00_scope.md R14). -/
inductive PwmSetting where
  | counterMode (m : CounterMode)
  | prescaler (p : Nat)
  | maxDuty (n : Nat)
  | loopMode (l : LoopMode)
  | loadMode (m : LoadMode)
  deriving DecidableEq, Repr, Inhabited

/-- A call of the expander driver (00_scope.md R14). -/
inductive ExpCall where
  | new (addr : Nat)
  | setPrescale (v : Nat)
  | setChannelOnOff (ch on off : Nat)
  deriving DecidableEq, Repr, Inhabited

/-- A collaborator call with its arguments (00_scope.md R14). -/
inductive Call where
  | pwmSet (x : PwmSetting)
  | pwmLoad (buf : Vector Code 98) (secondary : Option (Vector Code 98)) (start : Bool)
  | pwmWaitAndSplit
  | exp (c : ExpCall)
  deriving DecidableEq, Repr, Inhabited

/-- The answer an event records (00_scope.md R14): a call without a result returned, `Ok`, `Err(e)`, or no
answer at all. -/
inductive Answer where
  | returned
  | ok
  | perErr (e : PerErr)
  | expErr (e : ExpErr)
  | never
  deriving DecidableEq, Repr, Inhabited

/-- One event of the output history (00_scope.md R14, R18). -/
structure Event where
  call : Call
  answer : Answer
  deriving DecidableEq, Repr, Inhabited

/-- The payload of a response (30_encoding.md R89, R90). -/
inductive Payload where
  | empty
  | colours (c : BitVec 96)
  | perErr (e : PerErr)
  | expErr (e : ExpErr)
  deriving DecidableEq, Repr, Inhabited

/-- A response: a 3-bit status and a payload (30_encoding.md R89). -/
structure Response where
  status : BitVec 3
  payload : Payload
  deriving DecidableEq, Repr, Inhabited

/-- The on-tick and off-tick of one expander channel (00_scope.md R17, 20_memory.md R50). -/
structure TickPair where
  on : Nat
  off : Nat
  deriving DecidableEq, Repr, Inhabited

/-- The shadow of the expander channel space (10_state.md R31): the channels whose pair is known, in
strictly rising order; a channel that is not listed is unknown. -/
abbrev ChannelMap := List (Nat × TickPair)

/-- What the block has told the expander chip (10_state.md R28, R31); `none` is unknown. -/
structure Expander where
  address : Option Nat
  prescale : Option Nat
  chan : ChannelMap
  deriving DecidableEq, Repr, Inhabited

/-- One bit period of the one-wire line: high for `high` ticks, then low for `low` ticks (41_show.md R146). -/
structure BitPeriod where
  high : Nat
  low : Nat
  deriving DecidableEq, Repr, Inhabited

/-- The PWM/DMA peripheral as the block sees it (10_state.md R28, R32; 41_show.md R146): its five settings
(`none` is unknown), the buffer it owns while a transmission is in flight, and what the line has carried. -/
structure Pwm where
  counterMode : Option CounterMode
  prescaler : Option Nat
  maxDuty : Option Nat
  loopMode : Option LoopMode
  loadMode : Option LoadMode
  inFlight : Option (Vector Code 98)
  wire : List BitPeriod
  deriving DecidableEq, Repr, Inhabited

/-- One input of the host, taken at the command port between commands (43_facade.md R201,
70_reset_and_hazards.md R260, R262). -/
inductive Input where
  | command (w : Word)
  | reset
  deriving DecidableEq, Repr, Inhabited

/-- One channel write of MOVE_SERVO or DRIVE_MOTOR: a channel and its off-tick; the on-tick is 0
(30_encoding.md R95, 42_channel_mapper.md R182, R185). -/
structure ChannelWrite where
  ch : Nat
  off : Nat
  deriving DecidableEq, Repr, Inhabited

/-- The answers the collaborators will give, oldest first, and the index of the next free value, which
answers where a script has ended (00_scope.md R14, R18; notes/assumptions/3.md). -/
structure Oracle where
  setters : List Return
  loads : List (Reply PerErr)
  splits : List Return
  exps : List (Reply ExpErr)
  calls : Nat
  deriving DecidableEq, Repr, Inhabited

/-- The state.  `store`, `pulse`, `txState`, `constructed` and `history` are the spec's whole state of the
block (10_state.md R20); `pwm` and `expander` are its shadow of the collaborators (R28, R31, R32); `cfg` is
the configuration (R33, notes/assumptions/1.md); `pending` is the command that is between its two channel
writes (20_memory.md R56, notes/assumptions/20.md); the other fields are the model's own inputs and
bookkeeping (notes/assumptions/3.md, 4.md, 6.md, 13.md). -/
structure State where
  cfg : Config
  /-- the Pixel Color Store, byte `3p + k` (10_state.md R22) -/
  store : Vector Byte 15
  /-- the Pulse Buffer (10_state.md R24) -/
  pulse : Vector Code 98
  txState : TxState
  constructed : Bool
  history : List Event
  /-- the responses given so far (30_encoding.md R89) -/
  responses : List Response
  /-- the call that never returned, if there is one (00_scope.md R15) -/
  blocked : Option Call
  /-- the second write of the DRIVE_MOTOR that is running: its first write has taken effect on the chip, and
  the second is not issued yet (20_memory.md R56, 42_channel_mapper.md R187) -/
  pending : Option ChannelWrite
  pwm : Pwm
  expander : Expander
  inbox : List Input
  oracle : Oracle
  deriving DecidableEq, Repr, Inhabited

/-- Why the machine stops with a fault. -/
inductive Fault where
  /-- Raised by `step` in a state whose last command is stalled in the collaborator call `c`: the block has
  no enabled step and the run is a hang, not an end (00_scope.md R15, 60_exceptions.md R236).  Safe. -/
  | stalled (c : Call)
  deriving DecidableEq, Repr

/-- Why the spec gives an input no meaning. -/
inductive Refusal where
  /-- Raised by an arm of `exec` whose instruction has no meaning yet; no arm is left.  Safe. -/
  | notModelled (mnemonic : String)
  /-- Raised by `step` on an invalid word (30_encoding.md R86).  Safe. -/
  | invalidWord (e : DecodeError)
  /-- Raised by every meaning but INIT's while `constructed` is 0 (43_facade.md R203).  Safe. -/
  | notConstructed
  /-- Raised by INIT's meaning while `constructed` is 1 (43_facade.md R203).  Safe. -/
  | alreadyConstructed
  /-- Raised by MOVE_SERVO's meaning if `map_range` were called outside its domain (42_channel_mapper.md
  R166); its one call is inside.  Safe. -/
  | mapRangeDomain
  /-- Raised by `step` on a reset offered while a command hangs in a call (70_reset_and_hazards.md R262,
  notes/assumptions/7.md).  Safe. -/
  | resetDuringCommand
  deriving DecidableEq, Repr

/-- Nothing is known of the expander before the block has spoken to it (10_state.md R36). -/
def Expander.unknown : Expander := ⟨none, none, []⟩

/-- Nothing is known of the peripheral's settings, nothing is in flight, nothing has been played
(10_state.md R36). -/
def Pwm.unknown : Pwm := ⟨none, none, none, none, none, none, []⟩

/-- The machine right after power-on (10_state.md R36, 70_reset_and_hazards.md R260).  The Pulse Buffer is
unspecified there: free value 0 (notes/assumptions/8.md). -/
def State.reset : State where
  cfg := Config.board
  store := Config.board.storeInit
  pulse := Config.freePulse 0
  txState := .idle
  constructed := false
  history := []
  responses := []
  blocked := none
  pending := none
  pwm := .unknown
  expander := .unknown
  inbox := []
  oracle := ⟨[], [], [], [], 1⟩

end Sys2Proof.Machine
end

