-- ==== Sys2Proof/Machine/Operands.lean ====
section
/-!
DEFINITION. The operand computations: the pixel views of the store, the pulse frame, the range remap, the
servo tick, the motor duty and the channel tables.
-/

namespace Sys2Proof.Machine

/-! ## Pixel Color Store -/

/-- The pixel colour register `PXp` as a view of the store (10_state.md R21): G, R, B at `3p`. -/
def pixelOf (store : Vector Byte 15) (p : Fin 5) : Rgb :=
  { r := store[3 * p.val + 1], g := store[3 * p.val], b := store[3 * p.val + 2] }

/-- Write a colour at position `p`, in G, R, B order (40_pixel_store.md R111). -/
def writePixel (store : Vector Byte 15) (p : Fin 5) (c : Rgb) : Vector Byte 15 :=
  ((store.set (3 * p.val) c.g).set (3 * p.val + 1) c.r).set (3 * p.val + 2) c.b

/-- Write a colour at all five positions, ascending (40_pixel_store.md R114). -/
def writeAllPixels (store : Vector Byte 15) (c : Rgb) : Vector Byte 15 :=
  (List.finRange 5).foldl (fun st p => writePixel st p c) store

/-- The four colours of GET_COLORS: the first four triplets (40_pixel_store.md R117). -/
def readColours (store : Vector Byte 15) : Vector Rgb 4 :=
  Vector.ofFn fun i : Fin 4 => pixelOf store (i.castSucc)

/-! ## Pulse frame -/

/-- The code of one bit (41_show.md R133). -/
def bitCode (cfg : Config) (b : Bool) : Code := if b then cfg.t1h else cfg.t0h

/-- The eight codes of one byte, most significant bit first (41_show.md R133). -/
def code8 (cfg : Config) (b : Byte) : Vector Code 8 :=
  Vector.ofFn fun j : Fin 8 => bitCode cfg (b.getLsbD (7 - j.val))

/-- The frame of the first twelve bytes of the store and the two terminators (41_show.md R133, R134). -/
def encodeFrame (cfg : Config) (store : Vector Byte 15) : Vector Code 98 :=
  (Vector.ofFn fun i : Fin 12 => code8 cfg store[i.val]).flatten ++ #v[cfg.term, cfg.term]

/-- The high time of a code of the frame in ticks, the function `H` (41_show.md R146): 0 for the
terminator.  A frame holds no code but `T0H`, `T1H` and `TERM` (R133). -/
def highTicks (cfg : Config) (c : Code) : Nat :=
  if c = cfg.term then 0 else if c = cfg.t1h then cfg.highT1H else cfg.highT0H

/-- The bit period of a code: `MAX_DUTY` = 20 ticks, high first (41_show.md R146). -/
def bitPeriod (cfg : Config) (c : Code) : BitPeriod := ⟨highTicks cfg c, 20 - highTicks cfg c⟩

/-- What the line carries while a buffer is played (41_show.md R146). -/
def framePeriods (cfg : Config) (buf : Vector Code 98) : List BitPeriod :=
  buf.toList.map (bitPeriod cfg)

/-! ## Servo -/

/-- `clamp(x, lo, hi)` (00_scope.md R12). -/
def clamp (x lo hi : Int) : Int := min (max x lo) hi

/-- What `map_range` answers (42_channel_mapper.md R165, R166). -/
inductive Remap where
  /-- the bounds are outside the domain of R166: no value -/
  | refused
  /-- `None`: the value is outside [a, b] -/
  | noResult
  | value (v : Int)
  deriving DecidableEq, Repr

/-- `map_range(value, a, b, c, d)`, with floor division after the multiplication (42_channel_mapper.md
R165), refused unless `0 ≤ a < b` and `0 ≤ c ≤ d` (R166). -/
def mapRange (value a b c d : Int) : Remap :=
  if 0 ≤ a ∧ a < b ∧ 0 ≤ c ∧ c ≤ d then
    if value < a ∨ value > b then .noResult
    else .value ((value - a) * (d - c) / (b - a) + c)
  else .refused

/-- What MOVE_SERVO computes before its write (42_channel_mapper.md R176). -/
inductive ServoTick where
  | refused
  | invalidInput
  | tick (n : Nat)
  deriving DecidableEq, Repr

/-- The width of a remapped value, in 20000ths of the cycle (42_channel_mapper.md R176 step 3). -/
def servoWidth (v : Int) : Int := v * 10 + 600

/-- The tick of a width: floor division (42_channel_mapper.md R176 step 4). -/
def widthTick (width : Int) : Int := width * 4096 / 20000

/-- Steps 1 to 4 of MOVE_SERVO over an integer number of degrees, with the two checks (42_channel_mapper.md
R176, R178; 30_encoding.md R85). -/
def servoTick (d : Int) : ServoTick :=
  match mapRange (clamp d 0 270) 0 270 0 180 with
  | .refused => .refused
  | .noResult => .invalidInput
  | .value v => if widthTick (servoWidth v) > 4095 then .invalidInput
      else .tick (widthTick (servoWidth v)).toNat

/-- The channel of a servo slot (42_channel_mapper.md R170). -/
def servoChannel (cfg : Config) (servo : Fin 8) : Nat := cfg.servoCh[servo.val]

/-! ## Motor -/

/-- `min(4095, speed × 16)` (42_channel_mapper.md R183). -/
def motorDuty (speed : Nat) : Nat := min 4095 (speed * 16)

/-- `MOTOR_FWD[m]`: the second channel of the pair in slots 1 and 2, the first in slots 3 and 4
(42_channel_mapper.md R172). -/
def motorFwd (cfg : Config) (m : Fin 4) : Nat :=
  if m.val < 2 then cfg.motorPair[m.val].2 else cfg.motorPair[m.val].1

/-- `MOTOR_REV[m]`: the other channel of the pair (42_channel_mapper.md R172). -/
def motorRev (cfg : Config) (m : Fin 4) : Nat :=
  if m.val < 2 then cfg.motorPair[m.val].1 else cfg.motorPair[m.val].2

/-- The first write of DRIVE_MOTOR (42_channel_mapper.md R182, R184). -/
def motorFirst (cfg : Config) (m : Fin 4) (dir : Direction) (speed : Nat) : ChannelWrite :=
  match dir, cfg.reverseWriteOrder with
  | .forward, _ => ⟨motorFwd cfg m, motorDuty speed⟩
  | .reverse, .dutyFirst => ⟨motorRev cfg m, motorDuty speed⟩
  | .reverse, .zeroFirst => ⟨motorFwd cfg m, 0⟩

/-- The second write of DRIVE_MOTOR (42_channel_mapper.md R182, R184). -/
def motorSecond (cfg : Config) (m : Fin 4) (dir : Direction) (speed : Nat) : ChannelWrite :=
  match dir, cfg.reverseWriteOrder with
  | .forward, _ => ⟨motorRev cfg m, 0⟩
  | .reverse, .dutyFirst => ⟨motorFwd cfg m, 0⟩
  | .reverse, .zeroFirst => ⟨motorRev cfg m, motorDuty speed⟩

end Sys2Proof.Machine
end

