-- ==== Sys2Proof/Machine/Flags.lean ====
section
/-!
DEFINITION. What a command reports.  The block has no status flags and no condition codes (10_state.md
R27): every command reports its outcome in its response and nowhere else.  Here are the errors of the
leaf units, their wrapping into the unified kinds, and the encoding of a response.
-/

namespace Sys2Proof.Machine

/-- The errors of the leaf units and of the top level's own check (43_facade.md R206). -/
inductive LeafError where
  /-- NPE SHOW: `PwmIsUnbound` -/
  | pwmIsUnbound
  /-- NPE SHOW: the load primitive's error -/
  | transmit (e : PerErr)
  /-- PCM: the expander driver's error, or `InvalidInputData` -/
  | mapper (e : ExpErr)
  /-- TOP: a position outside 0..4 -/
  | position
  deriving DecidableEq, Repr

/-- The four unified error kinds (60_exceptions.md R220). -/
inductive ErrorKind where
  | peripheralError (e : PerErr)
  | expanderError (e : ExpErr)
  | peripheralUnbound
  | invalidPixelPosition
  deriving DecidableEq, Repr

/-- The top level wraps a leaf's error into a unified kind and never masks it (43_facade.md R206). -/
def wrapError : LeafError → ErrorKind
  | .pwmIsUnbound => .peripheralUnbound
  | .transmit e => .peripheralError e
  | .mapper e => .expanderError e
  | .position => .invalidPixelPosition

/-- How a command completes: `Ok` without a payload, the `Ok` of GET_COLORS, or an error
(30_encoding.md R89). -/
inductive Completion where
  | ok
  | colours (cs : Vector Rgb 4)
  | error (k : ErrorKind)
  deriving DecidableEq, Repr

/-- One colour of the payload: red, green, blue from high to low (30_encoding.md R90). -/
def packColour (c : Rgb) : BitVec 24 := c.r ++ c.g ++ c.b

/-- The payload of GET_COLORS: colour `i` is `c[24i+23 : 24i]` (30_encoding.md R90). -/
def packColours (cs : Vector Rgb 4) : BitVec 96 :=
  packColour cs[3] ++ packColour cs[2] ++ packColour cs[1] ++ packColour cs[0]

/-- The response of a completion (30_encoding.md R89, 60_exceptions.md R220). -/
def encodeResponse : Completion → Response
  | .ok => ⟨0, .empty⟩
  | .colours cs => ⟨0, .colours (packColours cs)⟩
  | .error (.peripheralError e) => ⟨1, .perErr e⟩
  | .error (.expanderError e) => ⟨2, .expErr e⟩
  | .error .peripheralUnbound => ⟨3, .empty⟩
  | .error .invalidPixelPosition => ⟨4, .empty⟩

end Sys2Proof.Machine
end

