-- ==== Sys2Proof/Machine/Ops.lean ====
section
/-!
DEFINITION. The shared operations: the expander channel shadow, the oracle, the collaborator calls with
their effects, responding, raising an error, stalling and reset.
-/

namespace Sys2Proof.Machine

/-- What a command's step answers. -/
abbrev Result := Host.Outcome State Fault Refusal

/-! ## Expander channel shadow (10_state.md R31) -/

/-- The canonical form: channels strictly rising. -/
abbrev ChannelMap.Wf (m : ChannelMap) : Prop := m.Pairwise fun a b => a.1 < b.1

/-- The pair of a channel; `none` where it is unknown. -/
def ChannelMap.read (m : ChannelMap) (ch : Nat) : Option TickPair :=
  (m.find? fun x => x.1 == ch).map Prod.snd

/-- A write answered `Ok`: the channel's pair is known. -/
def ChannelMap.write : ChannelMap → Nat → TickPair → ChannelMap
  | [], ch, v => [(ch, v)]
  | x :: rest, ch, v =>
    if ch < x.1 then (ch, v) :: x :: rest
    else if ch = x.1 then (ch, v) :: rest
    else x :: ChannelMap.write rest ch v

/-- A write answered `Err` or never: the channel's pair is unknown. -/
def ChannelMap.forget (m : ChannelMap) (ch : Nat) : ChannelMap := m.filter fun x => x.1 != ch

/-! ## Oracle (00_scope.md R14, R15) -/

/-- What the next setter call does. -/
def Oracle.setterReply (o : Oracle) : Return := o.setters.headD (Config.freeSetter o.calls)
/-- The answer of the next `pwm.load`. -/
def Oracle.loadReply (o : Oracle) : Reply PerErr := o.loads.headD (Config.freeLoad o.calls)
/-- What the next `pwm.wait_and_split` does. -/
def Oracle.splitReply (o : Oracle) : Return := o.splits.headD (Config.freeSplit o.calls)
/-- The answer of the next `exp.*` call. -/
def Oracle.expReply (o : Oracle) : Reply ExpErr := o.exps.headD (Config.freeExp o.calls)

/-- The oracle after one setter call. -/
def Oracle.popSetter (o : Oracle) : Oracle := { o with setters := o.setters.tail, calls := o.calls + 1 }
/-- The oracle after one `pwm.load`. -/
def Oracle.popLoad (o : Oracle) : Oracle := { o with loads := o.loads.tail, calls := o.calls + 1 }
/-- The oracle after one `pwm.wait_and_split`. -/
def Oracle.popSplit (o : Oracle) : Oracle := { o with splits := o.splits.tail, calls := o.calls + 1 }
/-- The oracle after one `exp.*` call. -/
def Oracle.popExp (o : Oracle) : Oracle := { o with exps := o.exps.tail, calls := o.calls + 1 }

/-- The answer an event records for a call without a result. -/
def returnAnswer : Return → Answer
  | .returns => .returned
  | .never => .never

/-- The answer an event records for `pwm.load`. -/
def loadAnswer : Reply PerErr → Answer
  | .ok => .ok
  | .err e => .perErr e
  | .never => .never

/-- The answer an event records for an `exp.*` call. -/
def expAnswer : Reply ExpErr → Answer
  | .ok => .ok
  | .err e => .expErr e
  | .never => .never

/-! ## The collaborators' side of a call -/

/-- A setting was written (10_state.md R28). -/
def Pwm.apply (x : PwmSetting) (p : Pwm) : Pwm :=
  match x with
  | .counterMode m => { p with counterMode := some m }
  | .prescaler v => { p with prescaler := some v }
  | .maxDuty n => { p with maxDuty := some n }
  | .loopMode l => { p with loopMode := some l }
  | .loadMode m => { p with loadMode := some m }

/-- A setter call never returned: its setting is unknown. -/
def Pwm.forget (x : PwmSetting) (p : Pwm) : Pwm :=
  match x with
  | .counterMode _ => { p with counterMode := none }
  | .prescaler _ => { p with prescaler := none }
  | .maxDuty _ => { p with maxDuty := none }
  | .loopMode _ => { p with loopMode := none }
  | .loadMode _ => { p with loadMode := none }

/-- The peripheral after a setter call. -/
def Pwm.afterSetter (x : PwmSetting) (r : Return) (p : Pwm) : Pwm :=
  match r with
  | .returns => p.apply x
  | .never => p.forget x

/-- The peripheral after `pwm.load`: it owns the buffer (10_state.md R32), or the line carries a prefix of
the frame whose length `sent` the spec does not give (93_implementation_defined.md U11). -/
def Pwm.afterLoad (cfg : Config) (buf : Vector Code 98) (sent : Nat) (r : Reply PerErr) (p : Pwm) : Pwm :=
  match r with
  | .ok => { p with inFlight := some buf }
  | .err _ => { p with wire := p.wire ++ (framePeriods cfg buf).take sent }
  | .never => { p with wire := p.wire ++ (framePeriods cfg buf).take sent }

/-- The codes the peripheral owns, as periods of the line. -/
def Pwm.inFlightPeriods (cfg : Config) (p : Pwm) : List BitPeriod :=
  match p.inFlight with
  | some buf => framePeriods cfg buf
  | none => []

/-- The peripheral after `pwm.wait_and_split`: it has played the whole buffer and given it back (41_show.md
R139), or it never reports completion and how much it played is not known. -/
def Pwm.afterSplit (cfg : Config) (sent : Nat) (r : Return) (p : Pwm) : Pwm :=
  match r with
  | .returns => { p with inFlight := none, wire := p.wire ++ p.inFlightPeriods cfg }
  | .never => { p with wire := p.wire ++ (p.inFlightPeriods cfg).take sent }

/-- The expander after a call: what was written is known after `Ok`, unknown otherwise (10_state.md R31,
60_exceptions.md R229). -/
def Expander.afterCall (c : ExpCall) (r : Reply ExpErr) (x : Expander) : Expander :=
  match c, r with
  | .new a, .ok => { x with address := some a }
  | .new _, _ => { x with address := none, prescale := none }
  | .setPrescale v, .ok => { x with prescale := some v }
  | .setPrescale _, _ => { x with prescale := none }
  | .setChannelOnOff ch on off, .ok => { x with chan := x.chan.write ch ⟨on, off⟩ }
  | .setChannelOnOff ch _ _, _ => { x with chan := x.chan.forget ch }

/-! ## Ending a command -/

/-- `respond`: complete the command with exactly one response (00_scope.md R14, 30_encoding.md R89). -/
def State.respond (s : State) (c : Completion) : State :=
  { s with responses := s.responses ++ [encodeResponse c] }

/-- Entry to an error (60_exceptions.md R228): the block saves nothing, switches no mode, masks nothing and
transfers control nowhere; it completes the command with the wrapped error (43_facade.md R206).  There is
no return operation beside it, because there is nothing to restore (60_exceptions.md R230). -/
def State.raise (s : State) (e : LeafError) : State := s.respond (.error (wrapError e))

/-- A call never returns (00_scope.md R15): no response, and the port accepts nothing more. -/
def State.stall (s : State) (c : Call) : State := { s with blocked := some c }

/-! ## Collaborator calls

Each takes what the command does after the call: the rest of the command runs only if the call returned
without an error (the form `x?` of 00_scope.md R14). -/

/-- The state after a setter call that did `r`. -/
def State.afterSetter (s : State) (x : PwmSetting) (r : Return) : State :=
  { s with
    oracle := s.oracle.popSetter
    history := s.history ++ [⟨.pwmSet x, returnAnswer r⟩]
    pwm := s.pwm.afterSetter x r }

/-- The state after `pwm.load(buf, none, true)` answered `r` (41_show.md R137). -/
def State.afterLoad (s : State) (buf : Vector Code 98) (r : Reply PerErr) : State :=
  { s with
    oracle := s.oracle.popLoad
    history := s.history ++ [⟨.pwmLoad buf none true, loadAnswer r⟩]
    pwm := s.pwm.afterLoad s.cfg buf (Config.freeSent s.oracle.calls) r }

/-- The state after `pwm.wait_and_split()` that did `r`. -/
def State.afterSplit (s : State) (r : Return) : State :=
  { s with
    oracle := s.oracle.popSplit
    history := s.history ++ [⟨.pwmWaitAndSplit, returnAnswer r⟩]
    pwm := s.pwm.afterSplit s.cfg (Config.freeSent s.oracle.calls) r }

/-- The state after an `exp.*` call answered `r`. -/
def State.afterExp (s : State) (c : ExpCall) (r : Reply ExpErr) : State :=
  { s with
    oracle := s.oracle.popExp
    history := s.history ++ [⟨.exp c, expAnswer r⟩]
    expander := s.expander.afterCall c r }

/-- One setter call (41_show.md R137): it cannot fail, but it may never return (00_scope.md R15). -/
def callSetter (x : PwmSetting) (s : State) (k : State → State) : State :=
  match s.oracle.setterReply with
  | .returns => k (s.afterSetter x .returns)
  | .never => (s.afterSetter x .never).stall (.pwmSet x)

/-- Setter calls one after another (20_memory.md R60). -/
def callSetters : List PwmSetting → State → (State → State) → State
  | [], s, k => k s
  | x :: xs, s, k => callSetter x s fun s' => callSetters xs s' k

/-- The call `pwm.load(buf, none, true)`; `onError` is what the block does to its state before it responds
`PeripheralError` (41_show.md R138). -/
def callLoad (buf : Vector Code 98) (s : State) (onError k : State → State) : State :=
  match s.oracle.loadReply with
  | .ok => k (s.afterLoad buf .ok)
  | .err e => (onError (s.afterLoad buf (.err e))).raise (.transmit e)
  | .never => (s.afterLoad buf .never).stall (.pwmLoad buf none true)

/-- The call `pwm.wait_and_split()` (41_show.md R139, R142). -/
def callSplit (s : State) (k : State → State) : State :=
  match s.oracle.splitReply with
  | .returns => k (s.afterSplit .returns)
  | .never => (s.afterSplit .never).stall .pwmWaitAndSplit

/-- A call of the expander driver: an error ends the command at once with `ExpanderError`
(42_channel_mapper.md R162, R176, R182). -/
def callExp (c : ExpCall) (s : State) (k : State → State) : State :=
  match s.oracle.expReply with
  | .ok => k (s.afterExp c .ok)
  | .err e => (s.afterExp c (.err e)).raise (.mapper e)
  | .never => (s.afterExp c .never).stall (.exp c)

/-- The call of a channel write, with on-tick 0 (30_encoding.md R95). -/
abbrev ChannelWrite.call (w : ChannelWrite) : ExpCall := .setChannelOnOff w.ch 0 w.off

/-- One expander channel write, with on-tick 0 (30_encoding.md R95). -/
def setChannel (w : ChannelWrite) (s : State) (k : State → State) : State :=
  callExp w.call s k

/-- The command has made its first channel write and keeps its second for its next step (20_memory.md R56). -/
def State.holdWrite (s : State) (w : ChannelWrite) : State := { s with pending := some w }

/-- The second write is about to be issued: none is left. -/
def State.takeWrite (s : State) : State := { s with pending := none }

/-! ## Acceptance and reset -/

/-- Every command but INIT is refused while `constructed` is 0 (43_facade.md R203). -/
def whenConstructed (s : State) (r : Result) : Result :=
  if s.constructed then r else .refused .notConstructed

/-- Reset, applied between commands (70_reset_and_hazards.md R260 to R262): the block's elements take the
values of 10_state.md R36; the collaborators keep whatever they held, and the inputs still to come are
untouched.  The Pulse Buffer is any value: the next free one. -/
def State.applyReset (s : State) : State :=
  { s with
    store := s.cfg.storeInit
    pulse := Config.freePulse s.oracle.calls
    txState := .idle
    constructed := false
    pending := none
    history := []
    responses := []
    oracle := { s.oracle with calls := s.oracle.calls + 1 } }

end Sys2Proof.Machine
end

