-- ==== Sys2Proof/Machine/ChannelMapper.lean ====
section
/-!
DEFINITION. The commands of the PWM channel mapper: MOVE_SERVO and DRIVE_MOTOR (42_channel_mapper.md).
-/

namespace Sys2Proof.Machine

/-- MOVE_SERVO (42_channel_mapper.md R176): clamp, remap, width, tick, the two checks, one write. -/
def execMoveServo (servo : Fin 8) (deg : Nat) (s : State) : Result :=
  whenConstructed s <|
    match servoTick deg with
    | .refused => .refused .mapRangeDomain
    | .invalidInput => .next (s.raise (.mapper .invalidInputData))
    | .tick n => .next (setChannel ⟨servoChannel s.cfg servo, n⟩ s fun s => s.respond .ok)

/-- DRIVE_MOTOR (42_channel_mapper.md R182) up to its second write.  The two writes are not atomic together
(20_memory.md R56): the first takes effect on the chip, and the command keeps the second for the block's next
step, so that the state between them is a state of the machine (42_channel_mapper.md R187,
70_reset_and_hazards.md R275).  An error ends the command (R186). -/
def execDriveMotor (motor : Fin 4) (dir : Direction) (speed : Nat) (s : State) : Result :=
  whenConstructed s <| .next <|
    setChannel (motorFirst s.cfg motor dir speed) s fun s =>
      s.holdWrite (motorSecond s.cfg motor dir speed)

/-- The second write of a running DRIVE_MOTOR and its response (42_channel_mapper.md R182); on an error
nothing is rolled back (R186). -/
def finishDriveMotor (w : ChannelWrite) (s : State) : State :=
  setChannel w s.takeWrite fun s => s.respond .ok

end Sys2Proof.Machine
end

