-- ==== Sys2Proof/Machine/Facade.lean ====
section
/-!
DEFINITION. INIT, the construction command of the top level (43_facade.md).
-/

namespace Sys2Proof.Machine

/-- The block's own writes of a successful INIT (43_facade.md R200, 10_state.md R37). -/
def State.construct (s : State) : State :=
  { s with store := s.cfg.storeInit, txState := .idle, constructed := true }

/-- INIT (43_facade.md R200, R202, 42_channel_mapper.md R162): refused while `constructed` is 1 (R203). -/
def execInit (s : State) : Result :=
  if s.constructed then .refused .alreadyConstructed
  else .next <|
    callExp (.new s.cfg.expanderAddr) s fun s =>
      callExp (.setPrescale s.cfg.prescale50Hz) s fun s => s.construct.respond .ok

end Sys2Proof.Machine
end

