-- ==== Sys2Proof/Machine/PixelStore.lean ====
section
/-!
DEFINITION. The commands that touch only the Pixel Color Store: SET_PIXEL, SET_ALL_PIXELS, GET_COLORS
(40_pixel_store.md).
-/

namespace Sys2Proof.Machine

/-- SET_PIXEL (40_pixel_store.md R111 to R113): the position is checked before any write; a position
outside 0..4 answers `InvalidPixelPosition` and changes nothing else. -/
def execSetPixel (p : Nat) (c : Rgb) (s : State) : Result :=
  whenConstructed s <| .next <|
    if h : p < 5 then { s with store := writePixel s.store ⟨p, h⟩ c }.respond .ok
    else s.raise .position

/-- SET_ALL_PIXELS (40_pixel_store.md R114). -/
def execSetAllPixels (c : Rgb) (s : State) : Result :=
  whenConstructed s <| .next <| { s with store := writeAllPixels s.store c }.respond .ok

/-- GET_COLORS (40_pixel_store.md R117): it changes no state and answers with the staged colours. -/
def execGetColors (s : State) : Result :=
  whenConstructed s <| .next <| s.respond (.colours (readColours s.store))

end Sys2Proof.Machine
end

