-- ==== Sys2Proof/Machine/Show.lean ====
section
/-!
DEFINITION. SHOW: encode the store, configure the peripheral, transmit, reclaim (41_show.md).
-/

namespace Sys2Proof.Machine

/-- The five settings in call order (41_show.md R131, R137). -/
def showSettings (cfg : Config) : List PwmSetting :=
  [.counterMode .up, .prescaler cfg.pwmPrescaler, .maxDuty 20, .loopMode .disabled, .loadMode .common]

/-- `tx_state <- t`. -/
def State.setTx (s : State) (t : TxState) : State := { s with txState := t }

/-- `pulse <- encode(store[0..11])` (41_show.md R131). -/
def State.fillPulse (s : State) : State := { s with pulse := encodeFrame s.cfg s.store }

/-- What a load error leaves of the loan: the open parameter `RECLAIM_ON_ERROR` (41_show.md R138). -/
def State.afterLoadError (s : State) : State :=
  if s.cfg.reclaimOnError then s.setTx .idle else s

/-- Load, wait and reclaim, once the peripheral is configured (41_show.md R131). -/
def transmit (s : State) : State :=
  callLoad s.pulse (s.setTx .transmitting) State.afterLoadError fun s =>
    callSplit s fun s => (s.setTx .idle).respond .ok

/-- SHOW (41_show.md R131): the guard first, then fill, configure and transmit. -/
def execShow (s : State) : Result :=
  whenConstructed s <| .next <|
    match s.txState with
    | .transmitting => s.raise .pwmIsUnbound
    | .idle => callSetters (showSettings s.cfg) s.fillPulse transmit

end Sys2Proof.Machine
end

