-- ==== Sys2Proof/Machine/Dispatch.lean ====
section
/-! DEFINITION. One arm per command. -/

namespace Sys2Proof.Machine

def exec (i : Instr) (s : State) : Host.Outcome State Fault Refusal :=
  match i with
  | .init => Sys2Proof.Machine.execInit s
  | .setPixel p c => Sys2Proof.Machine.execSetPixel p c s
  | .setAllPixels c => Sys2Proof.Machine.execSetAllPixels c s
  | .showFrame => Sys2Proof.Machine.execShow s
  | .getColors => Sys2Proof.Machine.execGetColors s
  | .moveServo servo deg => Sys2Proof.Machine.execMoveServo servo deg s
  | .driveMotor motor dir speed => Sys2Proof.Machine.execDriveMotor motor dir speed s

end Sys2Proof.Machine
end

