-- ==== Sys2Proof/Machine/Port.lean ====
section
/-!
DEFINITION. The command port: what it takes from the host's inputs (43_facade.md R201).
-/

namespace Sys2Proof.Machine

/-- What the port has in front of it. -/
inductive Offer where
  /-- the last command is stalled in a call: nothing is accepted (00_scope.md R15) -/
  | hung (c : Call)
  /-- a reset while a command hangs in a call (70_reset_and_hazards.md R262) -/
  | resetWhileRunning
  /-- a DRIVE_MOTOR is between its two writes: the port accepts nothing (43_facade.md R201) -/
  | running (w : ChannelWrite)
  /-- the host offers nothing -/
  | nothing
  /-- a reset between commands -/
  | reset (rest : List Input)
  /-- a command word -/
  | word (w : Word) (rest : List Input)
  deriving DecidableEq, Repr

/-- The port takes one input at a time and none while a command is running (43_facade.md R201). -/
def portOffer (s : State) : Offer :=
  match s.blocked, s.pending, s.inbox with
  | some _, _, .reset :: _ => .resetWhileRunning
  | some c, _, _ => .hung c
  | none, some w, _ => .running w
  | none, none, [] => .nothing
  | none, none, .reset :: rest => .reset rest
  | none, none, .command w :: rest => .word w rest

/-- The input in front of the port has been taken. -/
def State.take (s : State) (rest : List Input) : State := { s with inbox := rest }

/-- Put a command word in front of the port, with the port ready to accept it: no command is hung or running. -/
def State.offerWord (s : State) (w : Word) : State :=
  { s with inbox := .command w :: s.inbox, blocked := none, pending := none }

end Sys2Proof.Machine
end

