-- ==== Sys2Proof/Machine/Step.lean ====
section
/-!
DEFINITION. One step of the block: accept one input and run it, or go on with the command that is running.
-/

namespace Sys2Proof.Machine

/-- The command in front of the port is decoded, and refused if the word is invalid (30_encoding.md R86),
before any other check (60_exceptions.md R225). -/
def runWord (w : Word) (s : State) : Host.Outcome State Fault Refusal :=
  match decode w with
  | .ok i => exec i s
  | .error e => .refused (.invalidWord e)

/-- One step (43_facade.md R201).  A stalled block has no enabled step (60_exceptions.md R236); a DRIVE_MOTOR
between its two writes makes the second (20_memory.md R56); a block to which the host offers nothing waits
unchanged (notes/assumptions/4.md). -/
def step (s : State) : Host.Outcome State Fault Refusal :=
  match portOffer s with
  | .hung c => .fault (.stalled c)
  | .resetWhileRunning => .refused .resetDuringCommand
  | .running w => .next (finishDriveMotor w s)
  | .nothing => .next s
  | .reset rest => .next (s.take rest).applyReset
  | .word w rest => runWord w (s.take rest)

/-- The instruction whose bits are `w`, put where the next step takes its command: in front of the command
port (notes/assumptions/4.md). -/
def State.withFetchWord (s : State) (nbits w : Nat) : State :=
  s.offerWord (BitVec.ofNat 32 (w % 2 ^ nbits))

end Sys2Proof.Machine
end

