-- ==== Sys2Proof/Safety.lean ====
section
/-!
DEFINITION. What counts as a safe state and a legal event, in the terms that claims use.
-/

namespace Sys2Proof.Machine

/-! ## Events -/

/-- The buffer has the shape of a frame: 96 bit codes and two terminators (41_show.md R149 (c)). -/
def FrameShaped (cfg : Config) (buf : Vector Code 98) : Prop :=
  (∀ k : Fin 96, buf[k.val] = cfg.t0h ∨ buf[k.val] = cfg.t1h) ∧ buf[96] = cfg.term ∧ buf[97] = cfg.term

/-- The channel that carries the duty of a DRIVE_MOTOR in direction `dir` (42_channel_mapper.md R182). -/
def drivenChannel (cfg : Config) (m : Fin 4) : Direction → Nat
  | .forward => motorFwd cfg m
  | .reverse => motorRev cfg m

/-- The other channel of the motor, which is written to zero. -/
def idleChannel (cfg : Config) (m : Fin 4) : Direction → Nat
  | .forward => motorRev cfg m
  | .reverse => motorFwd cfg m

/-- The duty write of the command comes first (42_channel_mapper.md R184). -/
def dutyComesFirst (cfg : Config) (dir : Direction) : Prop :=
  dir = .forward ∨ cfg.reverseWriteOrder = .dutyFirst

/-- The channels that the configuration binds to a servo or a motor (42_channel_mapper.md R170, R171). -/
def boundChannels (cfg : Config) : List Nat :=
  cfg.servoCh.toList ++ cfg.motorPair.toList.flatMap fun pr => [pr.1, pr.2]

/-- The block issues the call with arguments that the rules give it (10_state.md R28; 30_encoding.md R95;
41_show.md R137, R149). -/
def CallLegal (cfg : Config) : Call → Prop
  | .pwmSet x => x ∈ showSettings cfg
  | .pwmLoad buf secondary start => FrameShaped cfg buf ∧ secondary = none ∧ start = true
  | .pwmWaitAndSplit => True
  | .exp (.new addr) => addr = cfg.expanderAddr
  | .exp (.setPrescale v) => v = cfg.prescale50Hz
  | .exp (.setChannelOnOff ch on off) => ch ∈ boundChannels cfg ∧ on = 0 ∧ off ≤ 4095

/-- The answer is one that the call's contract allows (00_scope.md R14, R15). -/
def AnswerLegal : Call → Answer → Prop
  | .pwmSet _, a => a = .returned ∨ a = .never
  | .pwmWaitAndSplit, a => a = .returned ∨ a = .never
  | .pwmLoad _ _ _, a => a = .ok ∨ (∃ e, a = .perErr e) ∨ a = .never
  | .exp _, a => a = .ok ∨ (∃ e, a = .expErr e) ∨ a = .never

/-- Every event of the history is a legal call with a legal answer, and so is the call still to come. -/
def HistoryLegal (s : State) : Prop :=
  (∀ e ∈ s.history, CallLegal s.cfg e.call ∧ AnswerLegal e.call e.answer) ∧
  ∀ w, s.pending = some w → CallLegal s.cfg (.exp w.call)

/-- An answer after which the command went on. -/
def Answer.good : Answer → Bool
  | .returned => true
  | .ok => true
  | _ => false

/-- A command run from its acceptance to its end: DRIVE_MOTOR takes a second step for its second write
(20_memory.md R56), every other command one step. -/
def execWhole (i : Instr) (s : State) : Result :=
  match exec i s with
  | .next t =>
    match t.pending with
    | some _ => step t
    | none => .next t
  | .fault f => .fault f
  | .refused r => .refused r

/-- The calls a command makes when every answer is good, in the order of its rule (20_memory.md R60;
41_show.md R131; 42_channel_mapper.md R162, R176, R182). -/
def plannedCalls (s : State) : Instr → List Call
  | .init => [.exp (.new s.cfg.expanderAddr), .exp (.setPrescale s.cfg.prescale50Hz)]
  | .setPixel _ _ => []
  | .setAllPixels _ => []
  | .getColors => []
  | .showFrame =>
    match s.txState with
    | .transmitting => []
    | .idle =>
      [.pwmSet (.counterMode .up), .pwmSet (.prescaler s.cfg.pwmPrescaler), .pwmSet (.maxDuty 20),
       .pwmSet (.loopMode .disabled), .pwmSet (.loadMode .common),
       .pwmLoad (encodeFrame s.cfg s.store) none true, .pwmWaitAndSplit]
  | .moveServo servo deg =>
    [.exp (.setChannelOnOff s.cfg.servoCh[servo.val] 0
      (((min deg 270 * 180 / 270) * 10 + 600) * 4096 / 20000))]
  | .driveMotor m dir speed =>
    [.exp (.setChannelOnOff (motorFirst s.cfg m dir speed).ch 0 (motorFirst s.cfg m dir speed).off),
     .exp (.setChannelOnOff (motorSecond s.cfg m dir speed).ch 0 (motorSecond s.cfg m dir speed).off)]

/-! ## The port -/

/-- At most one call is outstanding, and it is the last one (20_memory.md R60, 00_scope.md R15): while the
port is free every call of the history has been answered; while it is blocked exactly the last one has not.
A DRIVE_MOTOR is between its writes only in a constructed block that is not hung, right after a channel write
was answered Ok (42_channel_mapper.md R182). -/
def PortConsistent (s : State) : Prop :=
  (match s.blocked with
  | none => ∀ e ∈ s.history, e.answer ≠ .never
  | some c => ∃ h, s.history = h ++ [⟨c, .never⟩] ∧ ∀ e ∈ h, e.answer ≠ .never) ∧
  (s.pending ≠ none → s.blocked = none ∧ s.constructed = true ∧
    ∃ (h : List Event) (w : ChannelWrite), s.history = h ++ [⟨.exp w.call, .ok⟩])

/-- Why `tx_state` can be `Transmitting` (41_show.md R141): the command is hung, or a load error was not
reclaimed and stands in the history.  Before construction it never is (10_state.md R35). -/
def TransmitExplained (s : State) : Prop :=
  s.txState = .transmitting →
    s.constructed = true ∧
    (s.blocked.isSome = true ∨
      (s.cfg.reclaimOnError = false ∧
        ∃ buf e, (⟨.pwmLoad buf none true, .perErr e⟩ : Event) ∈ s.history))

/-! ## The collaborators -/

/-- The event writes channel `ch` of the expander. -/
def writesChannel (ch : Nat) (e : Event) : Bool :=
  match e.call with
  | .exp (.setChannelOnOff ch' _ _) => ch' == ch
  | _ => false

/-- The last event of the history that writes channel `ch`. -/
def lastWrite (h : List Event) (ch : Nat) : Option Event := (h.filter (writesChannel ch)).getLast?

/-- What an event says of the channel it writes (10_state.md R31): the pair if it was answered `Ok`,
unknown otherwise. -/
def writtenPair (e : Event) : Option TickPair :=
  match e.call, e.answer with
  | .exp (.setChannelOnOff _ on off), .ok => some ⟨on, off⟩
  | _, _ => none

/-- The channel shadow is canonical and agrees with the history (10_state.md R31): a channel that the
history writes reads as its last write says. -/
def ShadowAgrees (s : State) : Prop :=
  s.expander.chan.Wf ∧
  ∀ ch e, lastWrite s.history ch = some e → s.expander.chan.read ch = writtenPair e

/-- The line carries bit periods of 20 ticks only (41_show.md R146), and a buffer is in flight only while
the block waits for it (10_state.md R32). -/
def LineLegal (s : State) : Prop :=
  s.cfg.Valid ∧ (∀ x ∈ s.pwm.wire, x.high + x.low = 20) ∧
  (s.pwm.inFlight ≠ none → s.blocked = some .pwmWaitAndSplit)

/-- The ticks a stretch of the line lasts. -/
def wireTicks (w : List BitPeriod) : Nat := (w.map fun x => x.high + x.low).sum

/-! ## Responses -/

/-- The status codes each command can answer with (43_facade.md R207, 30_encoding.md R89). -/
def allowedStatus : Instr → List (BitVec 3)
  | .init => [0, 2]
  | .setPixel _ _ => [0, 4]
  | .setAllPixels _ => [0]
  | .showFrame => [0, 1, 3]
  | .getColors => [0]
  | .moveServo _ _ => [0, 2]
  | .driveMotor _ _ _ => [0, 2]

/-- Colour `i` of a GET_COLORS payload: bits `c[24i+23 : 24i]` (30_encoding.md R90). -/
def payloadColour (pay : BitVec 96) (i : Nat) : Rgb :=
  ⟨pay.extractLsb' (24 * i + 16) 8, pay.extractLsb' (24 * i + 8) 8, pay.extractLsb' (24 * i) 8⟩

/-! ## What an observer cannot tell apart -/

/-- The states differ at most in the bytes `store[12..14]` and in the Pulse Buffer (10_state.md R23, R24). -/
def SameButSpare (s t : State) : Prop :=
  (∀ k : Fin 12, s.store[k.val] = t.store[k.val]) ∧ t = { s with store := t.store, pulse := t.pulse }

/-- Two outcomes of the same kind, with the same reason to stop or with next states in the relation. -/
def OutcomesRelated (R : State → State → Prop) : Result → Result → Prop
  | .next s, .next t => R s t
  | .fault a, .fault b => a = b
  | .refused a, .refused b => a = b
  | _, _ => False

/-- The states agree on everything the rules of the block read: they may differ in the history and in the
shadows of the collaborators (10_state.md R20, R28, R31). -/
def SameBlock (s t : State) : Prop :=
  t = { s with history := t.history, pwm := t.pwm, expander := t.expander }

end Sys2Proof.Machine
end

