-- ==== Sys2Proof/Certificates/Slice0/Obligations.lean ====
section
/-!
DEFINITION. The statements for the provers: encoding, the command port, the pixel store, SHOW, the channel
mapper, INIT, errors, and the invariants that every step keeps.
-/

open Sys2Proof Sys2Proof.Machine

/-- Decoding the word of a well-formed command gives the command back.
Rests on: 30_encoding.md sections 1 to 3 and 9. -/
def Obligations.DecodeOfEncode : Prop :=
  ∀ i : Instr, i.wf = true → decode (encode i) = .ok i

/-- A word that decodes is the word of the command it decodes to.
Rests on: 30_encoding.md sections 1 to 3 and 9. -/
def Obligations.EncodeOfDecode : Prop :=
  ∀ (w : Word) (i : Instr), decode w = .ok i → i.wf = true ∧ encode i = w

/-- Exactly the invalid words are rejected by the decoder, and a step on one is a refusal.
Rests on: R86. -/
def Obligations.InvalidWordsAreRefused : Prop :=
  (∀ w : Word, (∃ e, decode w = .error e) ↔
    ((w.extractLsb 31 28).toNat = 0 ∨ 8 ≤ (w.extractLsb 31 28).toNat) ∨
    (((w.extractLsb 31 28).toNat = 1 ∨ (w.extractLsb 31 28).toNat = 4 ∨ (w.extractLsb 31 28).toNat = 5) ∧
      w.extractLsb 27 0 ≠ 0) ∨
    ((w.extractLsb 31 28).toNat = 2 ∧ w.getLsbD 27 = true) ∨
    ((w.extractLsb 31 28).toNat = 3 ∧ w.extractLsb 27 24 ≠ 0) ∨
    ((w.extractLsb 31 28).toNat = 6 ∧ (w.getLsbD 27 = true ∨ w.extractLsb 23 16 ≠ 0)) ∨
    ((w.extractLsb 31 28).toNat = 7 ∧ (w.extractLsb 27 26 ≠ 0 ∨ w.extractLsb 23 9 ≠ 0))) ∧
  (∃ e, decode 0x00000000#32 = .error e) ∧ (∃ e, decode 0xFFFFFFFF#32 = .error e) ∧
  (∀ (s : State) (w : Word) (rest : List Input) (e : DecodeError),
    s.blocked = none → s.pending = none → s.inbox = .command w :: rest → decode w = .error e →
    step s = .refused (.invalidWord e))

/-- A word decodes to a command of a row exactly when the row's mask and match select it.
Rests on: 30_encoding.md section 2. -/
def Obligations.DecodeSelectsTheTableRow : Prop :=
  (∀ row ∈ opcodeRows, ∀ w : Word,
    (∃ i, decode w = .ok i ∧ rowOf i = row) ↔ w &&& row.mask = row.pattern) ∧
  (∀ r₁ ∈ opcodeRows, ∀ r₂ ∈ opcodeRows, ∀ w : Word,
    w &&& r₁.mask = r₁.pattern → w &&& r₂.mask = r₂.pattern → r₁ = r₂)

/-- Words written out from the encoding decode to the commands they stand for.
Rests on: 30_encoding.md section 2; 95_test_vectors.md section 2.1. -/
def Obligations.SampleWordsDecode : Prop :=
  decode 0b00010000000000000000000000000000#32 = .ok .init ∧
  decode 0b00100000000100100011010001010110#32 = .ok (.setPixel 0 ⟨0x12, 0x34, 0x56⟩) ∧
  decode 0b00110000000010100001010000011110#32 = .ok (.setAllPixels ⟨10, 20, 30⟩) ∧
  decode 0b01000000000000000000000000000000#32 = .ok .showFrame ∧
  decode 0b01010000000000000000000000000000#32 = .ok .getColors ∧
  decode 0b01100111000000000000000100101100#32 = .ok (.moveServo 7 300) ∧
  decode 0b01110010000000000000000110000000#32 = .ok (.driveMotor 2 .reverse 128)

/-- CLEAR_PIXEL p is the word 0x20000000 + p x 2^24 and means SET_PIXEL p with black.
Rests on: 30_encoding.md section 9; 40_pixel_store.md section CLEAR_PIXEL. -/
def Obligations.ClearPixelIsSetPixelBlack : Prop :=
  ∀ p : Nat, p < 8 →
    encode (.clearPixel p) = BitVec.ofNat 32 (0x20000000 + p * 2 ^ 24) ∧
    decode (encode (.clearPixel p)) = .ok (.setPixel p ⟨0, 0, 0⟩)

/-- A step of a free port runs the decoded command in front of it.
Rests on: 43_facade.md section 2. -/
def Obligations.StepRunsDecodedCommand : Prop :=
  ∀ (s : State) (w : Word) (rest : List Input) (i : Instr),
    s.blocked = none → s.pending = none → s.inbox = .command w :: rest → decode w = .ok i →
    step s = exec i { s with inbox := rest }

/-- A stalled port accepts no command: its step is the fault of the call it hangs in. The fault as the
form of the hang, and the refusal as the form of the unspecified reset, are the model's choice
(entries 6 and 7).
Rests on: 00_scope.md section 5; 60_exceptions.md section 6. -/
def Obligations.StalledPortAcceptsNothing : Prop :=
  ∀ (s : State) (c : Call), s.blocked = some c →
    (∀ t, step s ≠ .next t) ∧
    ((∀ rest, s.inbox ≠ .reset :: rest) → step s = .fault (.stalled c)) ∧
    (∀ rest, s.inbox = .reset :: rest → step s = .refused .resetDuringCommand)

/-- A free port to which the host offers nothing waits unchanged. With no input, no call outstanding and
no command running the step leaves the state as it is: the model's choice for a block without a
command (entry 4).
Rests on: 43_facade.md section 2. -/
def Obligations.IdlePortWaits : Prop :=
  ∀ s : State, s.blocked = none → s.pending = none → s.inbox = [] → step s = .next s

/-- A reset between commands restores the block, leaves the collaborators, and is the only way back.
Rests on: R260; R261. -/
def Obligations.ResetRestoresTheBlock : Prop :=
  (∀ (s : State) (rest : List Input), s.blocked = none → s.pending = none →
    s.inbox = .reset :: rest →
    ∃ t, step s = .next t ∧
      t.constructed = false ∧ t.txState = .idle ∧ t.store = s.cfg.storeInit ∧ t.history = [] ∧
      t.blocked = none ∧ t.pending = none ∧ t.pwm = s.pwm ∧ t.expander = s.expander ∧ t.cfg = s.cfg ∧ t.inbox = rest) ∧
  (∀ (i : Instr) (s t : State), exec i s = .next t → s.constructed = true →
    t.constructed = true ∧ (s.txState = .transmitting → t.txState = .transmitting)) ∧
  (∀ s t : State, step s = .next t → s.constructed = true → (∀ rest, s.inbox ≠ .reset :: rest) →
    t.constructed = true ∧ (s.txState = .transmitting → t.txState = .transmitting))

/-- The state after power-on has the reset values of the spec. The values of the last four are the
model's choice (entries 6, 10, 12 and 20).
Rests on: 10_state.md section 10. -/
def Obligations.ResetStateIsAsSpecified : Prop :=
  State.reset.constructed = false ∧ State.reset.txState = .idle ∧
  State.reset.store = State.reset.cfg.storeInit ∧ State.reset.history = [] ∧
  State.reset.pwm.inFlight = none ∧ State.reset.blocked = none ∧ State.reset.pending = none ∧
  State.reset.cfg.Valid

/-- Before construction every command but INIT is refused, after it INIT is.
Rests on: R203. -/
def Obligations.WrongConstructionStateIsRefused : Prop :=
  (∀ (s : State) (i : Instr), s.constructed = false → i ≠ .init → exec i s = .refused .notConstructed) ∧
  (∀ s : State, s.constructed = true → exec .init s = .refused .alreadyConstructed)

/-- A command in the right construction state is never refused and never faults. For a call that never
returns this is the model's choice (log entry 6): the next state is the hang, from which no step
goes on; the spec says only that the block has no enabled step there.
Rests on: 60_exceptions.md section 6. -/
def Obligations.AcceptedCommandsAnswerNext : Prop :=
  ∀ (i : Instr) (s : State), (i = .init ↔ s.constructed = false) → ∃ t, exec i s = .next t

/-- Every command that does not stall completes with exactly one response of its status and payload.
Rests on: R89. -/
def Obligations.OneResponseUnlessStalled : Prop :=
  ∀ (i : Instr) (s t : State), s.blocked = none → s.pending = none → execWhole i s = .next t →
    t.pending = none ∧
    ((t.blocked = none ∧ ∃ r, t.responses = s.responses ++ [r] ∧
      ((r.status = 0 ∧ i ≠ .getColors ∧ r.payload = .empty) ∨
       (r.status = 0 ∧ i = .getColors ∧ ∃ pay, r.payload = .colours pay) ∨
       (r.status = 1 ∧ ∃ e, r.payload = .perErr e) ∨
       (r.status = 2 ∧ ∃ e, r.payload = .expErr e) ∨
       (r.status = 3 ∧ r.payload = .empty) ∨
       (r.status = 4 ∧ r.payload = .empty))) ∨
    (t.blocked ≠ none ∧ t.responses = s.responses))

/-- Each command answers only its own error kinds, and an error a collaborator reports reaches the
caller.
Rests on: R207. -/
def Obligations.ErrorsAreOfTheirKindAndSurfaced : Prop :=
  ∀ (i : Instr) (s t : State), s.pending = none → execWhole i s = .next t →
    (∀ r, t.responses = s.responses ++ [r] → r.status ∈ allowedStatus i) ∧
    ∃ evs, t.history = s.history ++ evs ∧
      (∀ c e, (⟨c, .perErr e⟩ : Event) ∈ evs → t.responses = s.responses ++ [⟨1, .perErr e⟩]) ∧
      (∀ c e, (⟨c, .expErr e⟩ : Event) ∈ evs → t.responses = s.responses ++ [⟨2, .expErr e⟩])

/-- No step writes the configuration.
Rests on: 10_state.md section 7. -/
def Obligations.ConfigurationIsNeverWritten : Prop :=
  ∀ s t : State, step s = .next t → t.cfg = s.cfg

/-- Each command writes only the state its row of the access matrix gives it.
Rests on: 10_state.md section 8. -/
def Obligations.CommandsWriteOnlyTheirState : Prop :=
  (∀ (i : Instr) (s t : State), exec i s = .next t →
    (i ≠ .init → t.constructed = s.constructed) ∧
    (∀ k : Fin 15, i ≠ .init → (∀ c, i ≠ .setAllPixels c) →
      (∀ p c, i = .setPixel p c → k.val / 3 ≠ p) → t.store[k.val] = s.store[k.val]) ∧
    (i ≠ .showFrame → t.pulse = s.pulse ∧ t.pwm = s.pwm) ∧
    (i ≠ .showFrame → i ≠ .init → t.txState = s.txState) ∧
    ((∀ p c, i ≠ .setPixel p c) ∧ (∀ c, i ≠ .setAllPixels c) ∧ i ≠ .getColors ∧ i ≠ .showFrame ∨
      t.expander = s.expander) ∧
    ((∀ m d v, i ≠ .driveMotor m d v) → t.pending = s.pending) ∧
    t.inbox = s.inbox ∧ t.cfg = s.cfg) ∧
  (∀ (s t : State), s.pending ≠ none → step s = .next t →
    t = { s with
      pending := none, history := t.history, responses := t.responses, blocked := t.blocked
      expander := { s.expander with chan := t.expander.chan }, oracle := t.oracle })

/-- A command's events are its rule's calls in order, cut off at the first call that is not answered
well.
Rests on: 20_memory.md section 5. -/
def Obligations.EventsFollowTheRuleOrder : Prop :=
  ∀ (i : Instr) (s t : State), s.pending = none → execWhole i s = .next t →
    ∃ evs, t.history = s.history ++ evs ∧
      evs.map Event.call <+: plannedCalls s i ∧
      (∀ e ∈ evs.dropLast, e.answer.good = true) ∧
      ((∀ e ∈ evs, e.answer.good = true) → evs.map Event.call = plannedCalls s i)

/-- SET_PIXEL p stores green, red, blue at 3p, 3p+1, 3p+2 and changes nothing else.
Rests on: R111. -/
def Obligations.SetPixelStoresGreenRedBlue : Prop :=
  (∀ (s : State) (p : Nat) (c : Rgb), s.constructed = true → p ≤ 4 →
    ∃ st : Vector Byte 15,
      (∀ k : Fin 15, st[k.val] =
        if k.val = 3 * p then c.g else if k.val = 3 * p + 1 then c.r
        else if k.val = 3 * p + 2 then c.b else s.store[k.val]) ∧
      exec (.setPixel p c) s = .next { s with store := st, responses := s.responses ++ [⟨0, .empty⟩] }) ∧
  decode 0x20123456#32 = .ok (.setPixel 0 ⟨0x12, 0x34, 0x56⟩) ∧
  (∀ s : State, s.constructed = true → s.store = Vector.replicate 15 0 →
    ∃ t, exec (.setPixel 0 ⟨0x12, 0x34, 0x56⟩) s = .next t ∧
      t.store.toList = [0x34, 0x12, 0x56, 0, 0, 0, 0, 0, 0, 0, 0, 0, 0, 0, 0])

/-- SET_PIXEL at a position outside 0..4 answers InvalidPixelPosition and changes nothing.
Rests on: R112. -/
def Obligations.SetPixelRejectsBadPosition : Prop :=
  (∀ (s : State) (p : Nat) (c : Rgb), s.constructed = true → 5 ≤ p →
    exec (.setPixel p c) s = .next { s with responses := s.responses ++ [⟨4, .empty⟩] }) ∧
  decode 0x25010101#32 = .ok (.setPixel 5 ⟨1, 1, 1⟩)

/-- SET_PIXEL 4 succeeds, writes bytes 12 to 14 only, and GET_COLORS and SHOW give the same results
after it.
Rests on: 40_pixel_store.md section SET_PIXEL; 10_state.md section 2. -/
def Obligations.FifthSlotIsWriteOnly : Prop :=
  (∀ (s : State) (c : Rgb), s.constructed = true →
    ∃ t, exec (.setPixel 4 c) s = .next t ∧ t.responses = s.responses ++ [⟨0, .empty⟩] ∧
      (∀ k : Fin 12, t.store[k.val] = s.store[k.val]) ∧
      t.store[12] = c.g ∧ t.store[13] = c.r ∧ t.store[14] = c.b ∧
      t.txState = s.txState ∧ t.oracle = s.oracle ∧
      encodeFrame t.cfg t.store = encodeFrame s.cfg s.store ∧
      (∃ (u : State) (rs : List Response), exec .showFrame s = .next u ∧
        u.responses = s.responses ++ rs ∧
        exec .showFrame t = .next { u with store := t.store, responses := t.responses ++ rs }) ∧
      (∃ r, exec .getColors s = .next { s with responses := s.responses ++ [r] } ∧
        exec .getColors t = .next { t with responses := t.responses ++ [r] })) ∧
  decode 0x24090909#32 = .ok (.setPixel 4 ⟨9, 9, 9⟩)

/-- SET_ALL_PIXELS writes green, red, blue at all five positions and changes nothing else.
Rests on: R114. -/
def Obligations.SetAllPixelsWritesFivePositions : Prop :=
  (∀ (s : State) (c : Rgb), s.constructed = true →
    ∃ st : Vector Byte 15,
      (∀ p : Fin 5, st[3 * p.val] = c.g ∧ st[3 * p.val + 1] = c.r ∧ st[3 * p.val + 2] = c.b) ∧
      exec (.setAllPixels c) s = .next { s with store := st, responses := s.responses ++ [⟨0, .empty⟩] }) ∧
  decode 0x300A141E#32 = .ok (.setAllPixels ⟨10, 20, 30⟩) ∧
  (∀ s : State, s.constructed = true → ∃ t, exec (.setAllPixels ⟨10, 20, 30⟩) s = .next t ∧
    t.store.toList = [0x14, 0x0A, 0x1E, 0x14, 0x0A, 0x1E, 0x14, 0x0A, 0x1E, 0x14, 0x0A, 0x1E,
      0x14, 0x0A, 0x1E])

/-- GET_COLORS answers the first four triplets as (R, G, B) colours and changes no state.
Rests on: R117. -/
def Obligations.GetColorsAnswersTheStagedColours : Prop :=
  (∀ s : State, s.constructed = true →
    ∃ pay : BitVec 96,
      exec .getColors s = .next { s with responses := s.responses ++ [⟨0, .colours pay⟩] } ∧
      ∀ i : Fin 4, payloadColour pay i.val =
        ⟨s.store[3 * i.val + 1], s.store[3 * i.val], s.store[3 * i.val + 2]⟩) ∧
  (∀ s : State, s.constructed = true →
    s.store.toList = [0x34, 0x12, 0x56, 0, 0, 0, 0, 0, 0, 0, 0, 0, 0, 0, 0] →
    exec .getColors s = .next { s with responses :=
      s.responses ++ [⟨0, .colours 0x000000000000000000123456⟩] })

/-- SET_PIXEL p then GET_COLORS returns the colour at p and leaves every other index as it was.
Rests on: R118. -/
def Obligations.SetThenGetReturnsTheColour : Prop :=
  ∀ (s : State) (p : Nat) (c : Rgb), s.constructed = true → p ≤ 4 →
    ∃ (t : State) (before after : BitVec 96),
      exec (.setPixel p c) s = .next t ∧
      exec .getColors s = .next { s with responses := s.responses ++ [⟨0, .colours before⟩] } ∧
      exec .getColors t = .next { t with responses := t.responses ++ [⟨0, .colours after⟩] } ∧
      (p ≤ 3 → payloadColour after p = c ∧
        t.store[3 * p]? = some c.g ∧ t.store[3 * p + 1]? = some c.r ∧ t.store[3 * p + 2]? = some c.b) ∧
      (∀ q : Fin 4, q.val ≠ p → payloadColour after q.val = payloadColour before q.val)

/-- The bytes store[12..14] and the Pulse Buffer between commands influence nothing else.
Rests on: 10_state.md sections 2 and 3. -/
def Obligations.SpareBytesAndPulseAreUnobservable : Prop :=
  ∀ s t : State, SameButSpare s t → OutcomesRelated SameButSpare (step s) (step t)

/-- No step reads the history, the peripheral's settings or the expander's channels.
Rests on: 10_state.md sections 1, 4 and 6; 20_memory.md section 1. -/
def Obligations.CollaboratorShadowsAreNeverRead : Prop :=
  ∀ s t : State, SameBlock s t → OutcomesRelated SameBlock (step s) (step t)

/-- Every command but SHOW and INIT behaves the same whatever tx_state is.
Rests on: 40_pixel_store.md, opening section; 42_channel_mapper.md, opening section; 92_eei_decisions.md D17. -/
def Obligations.OnlyShowReadsTxState : Prop :=
  ∀ (i : Instr) (s : State) (x : TxState), i ≠ .showFrame → i ≠ .init →
    OutcomesRelated (fun t u => u = { t with txState := x }) (exec i s) (exec i { s with txState := x })

/-- A pixel store command and a mapper command give the same final state in either order.
Rests on: 20_memory.md section 5. -/
def Obligations.PixelAndMapperCommandsCommute : Prop :=
  ∀ (i j : Instr) (s t u t' u' : State), s.pending = none →
    ((∃ p c, i = .setPixel p c) ∨ (∃ c, i = .setAllPixels c) ∨ i = .getColors) →
    ((∃ m d, j = .moveServo m d) ∨ (∃ m d v, j = .driveMotor m d v)) →
    execWhole i s = .next t → execWhole j t = .next u →
    execWhole j s = .next t' → execWhole i t' = .next u' →
    u' = { u with responses := u'.responses } ∧ u'.responses.Perm u.responses

/-- Entry 8i+j of the frame is the code of bit 7-j of byte i, and the last two entries are terminators.
For i in 0..11 and j in 0..7, entry 8i+j of the encoded frame is T1H if bit 7-j of store byte i is
1, else T0H; entries 96 and 97 are TERM.
Rests on: R92. -/
def Obligations.FrameIsBitByBit : Prop :=
  ∀ (cfg : Config) (store : Vector Byte 15),
    (∀ (i : Fin 12) (j : Fin 8), (encodeFrame cfg store)[8 * i.val + j.val] =
      if store[i.val].getLsbD (7 - j.val) then cfg.t1h else cfg.t0h) ∧
    (encodeFrame cfg store)[96] = cfg.term ∧ (encodeFrame cfg store)[97] = cfg.term

/-- The frame encoding is injective on the twelve encoded bytes exactly because the two bit codes
differ.
Rests on: 41_show.md section 2. -/
def Obligations.FrameTellsTheStoresApart : Prop :=
  (∀ (cfg : Config) (a b : Vector Byte 15), cfg.t0h ≠ cfg.t1h →
    (encodeFrame cfg a = encodeFrame cfg b ↔ ∀ k : Fin 12, a[k.val] = b[k.val])) ∧
  (∀ (cfg : Config) (a b : Vector Byte 15), cfg.t0h = cfg.t1h → encodeFrame cfg a = encodeFrame cfg b)

/-- Under a valid configuration the two terminators are the only entries of a frame equal to TERM. For a
valid configuration entries 96 and 97 of every frame equal TERM and no entry 0 to 95 does.
Rests on: 41_show.md section 2; 00_scope.md section 3. -/
def Obligations.TerminatorsStandApart : Prop :=
  ∀ (cfg : Config) (store : Vector Byte 15), cfg.Valid →
    (encodeFrame cfg store)[96] = cfg.term ∧ (encodeFrame cfg store)[97] = cfg.term ∧
    ∀ k : Fin 96, (encodeFrame cfg store)[k.val] ≠ cfg.term

/-- A frame is 98 periods of 20 ticks: the bits' high times, then two low periods, 1960 ticks in all.
Rests on: 41_show.md section 5; 70_reset_and_hazards.md section 4. -/
def Obligations.FrameWaveform : Prop :=
  ∀ (cfg : Config) (store : Vector Byte 15), cfg.Valid →
    (framePeriods cfg (encodeFrame cfg store)).length = 98 ∧
    (∀ (i : Fin 12) (j : Fin 8),
      (framePeriods cfg (encodeFrame cfg store))[8 * i.val + j.val]? =
        if store[i.val].getLsbD (7 - j.val) then some ⟨cfg.highT1H, 20 - cfg.highT1H⟩
        else some ⟨cfg.highT0H, 20 - cfg.highT0H⟩) ∧
    (framePeriods cfg (encodeFrame cfg store)).drop 96 = [⟨0, 20⟩, ⟨0, 20⟩] ∧
    wireTicks (framePeriods cfg (encodeFrame cfg store)) = 1960

/-- SHOW in Idle with every call answered sends the encoded store once and answers Ok.
Rests on: 41_show.md sections 1, 3 and 4. -/
def Obligations.ShowSendsTheFrame : Prop :=
  ∀ s : State, s.constructed = true → s.txState = .idle →
    (∀ k < 5, (Oracle.popSetter^[k] s.oracle).setterReply = .returns) →
    (Oracle.popSetter^[5] s.oracle).loadReply = .ok →
    (Oracle.popSetter^[5] s.oracle).popLoad.splitReply = .returns →
    exec .showFrame s = .next { s with
      pulse := encodeFrame s.cfg s.store
      history := s.history ++
        [⟨.pwmSet (.counterMode .up), .returned⟩, ⟨.pwmSet (.prescaler s.cfg.pwmPrescaler), .returned⟩,
         ⟨.pwmSet (.maxDuty 20), .returned⟩, ⟨.pwmSet (.loopMode .disabled), .returned⟩,
         ⟨.pwmSet (.loadMode .common), .returned⟩,
         ⟨.pwmLoad (encodeFrame s.cfg s.store) none true, .ok⟩, ⟨.pwmWaitAndSplit, .returned⟩]
      responses := s.responses ++ [⟨0, .empty⟩]
      pwm :=
        { counterMode := some .up, prescaler := some s.cfg.pwmPrescaler, maxDuty := some 20,
          loopMode := some .disabled, loadMode := some .common, inFlight := none,
          wire := s.pwm.wire ++ framePeriods s.cfg (encodeFrame s.cfg s.store) }
      oracle := (Oracle.popSetter^[5] s.oracle).popLoad.popSplit }

/-- SHOW whose load is answered Err(e) answers PeripheralError(e) and reclaims only if the parameter
says so.
Rests on: 41_show.md section 4; 93_implementation_defined.md U2 and U11. -/
def Obligations.ShowReportsALoadError : Prop :=
  ∀ (s : State) (e : PerErr), s.constructed = true → s.txState = .idle →
    (∀ k < 5, (Oracle.popSetter^[k] s.oracle).setterReply = .returns) →
    (Oracle.popSetter^[5] s.oracle).loadReply = .err e →
    ∃ n : Nat, exec .showFrame s = .next { s with
      pulse := encodeFrame s.cfg s.store
      txState := if s.cfg.reclaimOnError then .idle else .transmitting
      history := s.history ++
        [⟨.pwmSet (.counterMode .up), .returned⟩, ⟨.pwmSet (.prescaler s.cfg.pwmPrescaler), .returned⟩,
         ⟨.pwmSet (.maxDuty 20), .returned⟩, ⟨.pwmSet (.loopMode .disabled), .returned⟩,
         ⟨.pwmSet (.loadMode .common), .returned⟩,
         ⟨.pwmLoad (encodeFrame s.cfg s.store) none true, .perErr e⟩]
      responses := s.responses ++ [⟨1, .perErr e⟩]
      pwm :=
        { counterMode := some .up, prescaler := some s.cfg.pwmPrescaler, maxDuty := some 20,
          loopMode := some .disabled, loadMode := some .common, inFlight := s.pwm.inFlight,
          wire := s.pwm.wire ++ (framePeriods s.cfg (encodeFrame s.cfg s.store)).take n }
      oracle := (Oracle.popSetter^[5] s.oracle).popLoad }

/-- SHOW in Transmitting answers PeripheralUnbound and does nothing else.
Rests on: R140. -/
def Obligations.ShowInTransmittingIsUnbound : Prop :=
  ∀ s : State, s.constructed = true → s.txState = .transmitting →
    wrapError .pwmIsUnbound = .peripheralUnbound ∧
    encodeResponse (.error .peripheralUnbound) = ⟨3, .empty⟩ ∧
    exec .showFrame s = .next { s with responses := s.responses ++ [⟨3, .empty⟩] }

/-- If the load or the wait never returns, SHOW never responds and no further command is ever accepted.
That SHOW itself answers a next state, the hang, is the model's choice (log entry 6).
Rests on: 41_show.md section 4. -/
def Obligations.ShowThatStallsHangsTheBlock : Prop :=
  ∀ s : State, s.constructed = true → s.txState = .idle →
    (∀ k < 5, (Oracle.popSetter^[k] s.oracle).setterReply = .returns) →
    ((Oracle.popSetter^[5] s.oracle).loadReply = .never ∨
      ((Oracle.popSetter^[5] s.oracle).loadReply = .ok ∧
       (Oracle.popSetter^[5] s.oracle).popLoad.splitReply = .never)) →
    ∃ t, exec .showFrame s = .next t ∧ t.responses = s.responses ∧ t.txState = .transmitting ∧
      t.store = s.store ∧ t.pulse = encodeFrame s.cfg s.store ∧
      (∀ (ws : List Word) (u : State), step { t with inbox := ws.map .command } ≠ .next u)

/-- Once tx_state is Transmitting, no run of commands brings it back: every later SHOW answers
PeripheralUnbound.
Rests on: 60_exceptions.md section 4; 70_reset_and_hazards.md section 3. -/
def Obligations.LostTransmitterStaysLost : Prop :=
  ∀ (n : Nat) (s t : State) (ws : List Word), s.constructed = true → s.txState = .transmitting →
    s.inbox = ws.map .command → Host.Core.run Sys2Proof.core n s = .next t →
    t.constructed = true ∧ t.txState = .transmitting ∧
    exec .showFrame t = .next { t with responses := t.responses ++ [⟨3, .empty⟩] }

/-- After a SHOW that answered Ok, tx_state is Idle, and a second SHOW with no store write between makes
the same calls.
Rests on: 41_show.md section 4; 10_state.md section 9. -/
def Obligations.ShowAgainSendsTheSameFrame : Prop :=
  ∀ s t : State, s.txState = .idle → exec .showFrame s = .next t →
    t.responses = s.responses ++ [⟨0, .empty⟩] →
    t.txState = .idle ∧ t.store = s.store ∧ t.pulse = encodeFrame s.cfg s.store ∧
    ∃ evs : List Event, t.history = s.history ++ evs ∧ evs.map Event.call = plannedCalls s .showFrame ∧
      ∀ (n : Nat) (ws : List Word) (u : State),
        (∀ w ∈ ws, (∀ p c, decode w ≠ .ok (.setPixel p c)) ∧ ∀ c, decode w ≠ .ok (.setAllPixels c)) →
        Host.Core.run Sys2Proof.core n { t with inbox := ws.map .command } = .next u →
        u.txState = .idle →
        ∃ (v : State) (evs' : List Event), exec .showFrame u = .next v ∧ v.history = u.history ++ evs' ∧
          evs'.map Event.call <+: evs.map Event.call ∧
          (v.responses = u.responses ++ [⟨0, .empty⟩] → evs' = evs)

/-- map_range floors (value-a)(d-c)/(b-a)+c inside [a, b], answers None outside, and is refused off its
domain.
Rests on: R166. -/
def Obligations.MapRangeOnItsDomain : Prop :=
  (∀ value a b c d : Int, 0 ≤ a → a < b → 0 ≤ c → c ≤ d →
    ((value < a ∨ value > b) → mapRange value a b c d = .noResult) ∧
    (a ≤ value → value ≤ b →
      mapRange value a b c d = .value (Int.fdiv ((value - a) * (d - c)) (b - a) + c) ∧
      c ≤ Int.fdiv ((value - a) * (d - c)) (b - a) + c ∧
      Int.fdiv ((value - a) * (d - c)) (b - a) + c ≤ d) ∧
    mapRange a a b c d = .value c ∧ mapRange b a b c d = .value d ∧
    (∀ value' r r', value ≤ value' → mapRange value a b c d = .value r →
      mapRange value' a b c d = .value r' → r ≤ r')) ∧
  (∀ value a b c d : Int, ¬ (0 ≤ a ∧ a < b ∧ 0 ≤ c ∧ c ≤ d) → mapRange value a b c d = .refused)

/-- The servo tick follows its formula, takes 181 distinct values from 122 to 491, never decreases, and
saturates.
Rests on: R179. -/
def Obligations.ServoTickValues : Prop :=
  (∀ deg : Nat, servoTick deg = .tick (((min deg 270 * 180 / 270) * 10 + 600) * 4096 / 20000)) ∧
  (∀ v ≤ 180, ∃ deg ≤ 270, min deg 270 * 180 / 270 = v) ∧
  (∀ deg : Nat, min deg 270 * 180 / 270 ≤ 180) ∧
  (∀ v v' : Nat, v < v' → v' ≤ 180 → (v * 10 + 600) * 4096 / 20000 < (v' * 10 + 600) * 4096 / 20000) ∧
  (servoTick 0 = .tick 122 ∧ servoTick 1 = .tick 122 ∧ ∀ deg : Nat, 270 ≤ deg → servoTick deg = .tick 491) ∧
  (∀ (deg deg' m n : Nat), deg ≤ deg' → servoTick deg = .tick m → servoTick deg' = .tick n → m ≤ n) ∧
  servoTick 271 = servoTick 270 ∧
  (∀ row ∈ ([(0, 0, 0, 600, 122), (1, 1, 0, 600, 122), (2, 2, 1, 610, 124), (3, 3, 2, 620, 126),
      (45, 45, 30, 900, 184), (90, 90, 60, 1200, 245), (134, 134, 89, 1490, 305),
      (135, 135, 90, 1500, 307), (136, 136, 90, 1500, 307), (180, 180, 120, 1800, 368),
      (200, 200, 133, 1930, 395), (269, 269, 179, 2390, 489), (270, 270, 180, 2400, 491),
      (271, 270, 180, 2400, 491), (65535, 270, 180, 2400, 491)] : List (Nat × Nat × Nat × Nat × Nat)),
    min row.1 270 = row.2.1 ∧ row.2.1 * 180 / 270 = row.2.2.1 ∧
    row.2.2.1 * 10 + 600 = row.2.2.2.1 ∧ row.2.2.2.1 * 4096 / 20000 = row.2.2.2.2 ∧
    servoTick row.1 = .tick row.2.2.2.2)

/-- MOVE_SERVO writes (0, tick) to the slot's channel and answers Ok.
Rests on: 42_channel_mapper.md section 4. -/
def Obligations.MoveServoWritesItsTick : Prop :=
  ∀ (s : State) (servo : Fin 8) (deg : Nat), s.constructed = true → s.oracle.expReply = .ok →
    ∃ chan : ChannelMap,
      chan.read s.cfg.servoCh[servo.val] =
        some ⟨0, ((min deg 270 * 180 / 270) * 10 + 600) * 4096 / 20000⟩ ∧
      (∀ ch, ch ≠ s.cfg.servoCh[servo.val] → chan.read ch = s.expander.chan.read ch) ∧
      exec (.moveServo servo deg) s = .next { s with
        history := s.history ++ [⟨.exp (.setChannelOnOff s.cfg.servoCh[servo.val] 0
          (((min deg 270 * 180 / 270) * 10 + 600) * 4096 / 20000)), .ok⟩]
        responses := s.responses ++ [⟨0, .empty⟩]
        expander := { s.expander with chan := chan }
        oracle := s.oracle.popExp }

/-- MOVE_SERVO whose write is answered Err(e) answers ExpanderError(e) and changes no block state.
Rests on: 42_channel_mapper.md section 4; 60_exceptions.md section 3. -/
def Obligations.MoveServoReportsAWriteError : Prop :=
  ∀ (s : State) (servo : Fin 8) (deg : Nat) (e : ExpErr), s.constructed = true → s.oracle.expReply = .err e →
    ∃ chan : ChannelMap,
      chan.read s.cfg.servoCh[servo.val] = none ∧
      (∀ ch, ch ≠ s.cfg.servoCh[servo.val] → chan.read ch = s.expander.chan.read ch) ∧
      exec (.moveServo servo deg) s = .next { s with
        history := s.history ++ [⟨.exp (.setChannelOnOff s.cfg.servoCh[servo.val] 0
          (((min deg 270 * 180 / 270) * 10 + 600) * 4096 / 20000)), .expErr e⟩]
        responses := s.responses ++ [⟨2, .expErr e⟩]
        expander := { s.expander with chan := chan }
        oracle := s.oracle.popExp }

/-- DRIVE_MOTOR makes its two writes in the order of its rule and answers Ok.
Rests on: 42_channel_mapper.md section 5. -/
def Obligations.DriveMotorWritesBothChannels : Prop :=
  ∀ (s : State) (m : Fin 4) (dir : Direction) (speed : Nat), s.constructed = true →
    s.oracle.expReply = .ok → s.oracle.popExp.expReply = .ok →
    ∃ mid chan : ChannelMap,
      mid.read (motorFirst s.cfg m dir speed).ch = some ⟨0, (motorFirst s.cfg m dir speed).off⟩ ∧
      (∀ ch, ch ≠ (motorFirst s.cfg m dir speed).ch → mid.read ch = s.expander.chan.read ch) ∧
      (∀ ch, ch ≠ motorFwd s.cfg m → ch ≠ motorRev s.cfg m → chan.read ch = s.expander.chan.read ch) ∧
      (motorFwd s.cfg m ≠ motorRev s.cfg m →
        chan.read (motorFwd s.cfg m) =
          some ⟨0, match dir with | .forward => min 4095 (speed * 16) | .reverse => 0⟩ ∧
        chan.read (motorRev s.cfg m) =
          some ⟨0, match dir with | .forward => 0 | .reverse => min 4095 (speed * 16)⟩) ∧
      exec (.driveMotor m dir speed) s = .next { s with
        history := s.history ++ [⟨.exp (.setChannelOnOff (motorFirst s.cfg m dir speed).ch 0
          (motorFirst s.cfg m dir speed).off), .ok⟩]
        pending := some (motorSecond s.cfg m dir speed)
        expander := { s.expander with chan := mid }
        oracle := s.oracle.popExp } ∧
      (s.blocked = none → execWhole (.driveMotor m dir speed) s = .next { s with
        pending := none
        history := s.history ++
          match dir, s.cfg.reverseWriteOrder with
          | .forward, _ =>
            [⟨.exp (.setChannelOnOff (motorFwd s.cfg m) 0 (min 4095 (speed * 16))), .ok⟩,
             ⟨.exp (.setChannelOnOff (motorRev s.cfg m) 0 0), .ok⟩]
          | .reverse, .dutyFirst =>
            [⟨.exp (.setChannelOnOff (motorRev s.cfg m) 0 (min 4095 (speed * 16))), .ok⟩,
             ⟨.exp (.setChannelOnOff (motorFwd s.cfg m) 0 0), .ok⟩]
          | .reverse, .zeroFirst =>
            [⟨.exp (.setChannelOnOff (motorFwd s.cfg m) 0 0), .ok⟩,
             ⟨.exp (.setChannelOnOff (motorRev s.cfg m) 0 (min 4095 (speed * 16))), .ok⟩]
        responses := s.responses ++ [⟨0, .empty⟩]
        expander := { s.expander with chan := chan }
        oracle := s.oracle.popExp.popExp })

/-- A failed motor write ends the command at once, and a first write that succeeded stays in effect.
Rests on: R186. -/
def Obligations.DriveMotorPartialFailure : Prop :=
  ∀ (s : State) (m : Fin 4) (dir : Direction) (speed : Nat) (e : ExpErr), s.constructed = true →
    (s.oracle.expReply = .err e →
      ∃ chan : ChannelMap,
        chan.read (motorFirst s.cfg m dir speed).ch = none ∧
        (∀ ch, ch ≠ (motorFirst s.cfg m dir speed).ch → chan.read ch = s.expander.chan.read ch) ∧
        exec (.driveMotor m dir speed) s = .next { s with
          history := s.history ++ [⟨.exp (.setChannelOnOff (motorFirst s.cfg m dir speed).ch 0
            (motorFirst s.cfg m dir speed).off), .expErr e⟩]
          responses := s.responses ++ [⟨2, .expErr e⟩]
          expander := { s.expander with chan := chan }
          oracle := s.oracle.popExp }) ∧
    (s.blocked = none → s.oracle.expReply = .ok → s.oracle.popExp.expReply = .err e →
      ∃ chan : ChannelMap,
        chan.read (motorSecond s.cfg m dir speed).ch = none ∧
        (motorFwd s.cfg m ≠ motorRev s.cfg m →
          chan.read (motorFirst s.cfg m dir speed).ch =
            some ⟨0, (motorFirst s.cfg m dir speed).off⟩) ∧
        (∀ ch, ch ≠ (motorFirst s.cfg m dir speed).ch → ch ≠ (motorSecond s.cfg m dir speed).ch →
          chan.read ch = s.expander.chan.read ch) ∧
        execWhole (.driveMotor m dir speed) s = .next { s with
          pending := none
          history := s.history ++
            [⟨.exp (.setChannelOnOff (motorFirst s.cfg m dir speed).ch 0
              (motorFirst s.cfg m dir speed).off), .ok⟩,
             ⟨.exp (.setChannelOnOff (motorSecond s.cfg m dir speed).ch 0
              (motorSecond s.cfg m dir speed).off), .expErr e⟩]
          responses := s.responses ++ [⟨2, .expErr e⟩]
          expander := { s.expander with chan := chan }
          oracle := s.oracle.popExp.popExp })

/-- For Forward, slots 1 and 2 write the pair's second channel first, slots 3 and 4 its first channel
first.
Rests on: R189. -/
def Obligations.ForwardOrderDiffersBetweenSlots : Prop :=
  (∀ (s : State) (m : Fin 4) (speed : Nat), s.constructed = true → s.blocked = none →
    s.oracle.expReply = .ok → s.oracle.popExp.expReply = .ok →
    ∃ t, execWhole (.driveMotor m .forward speed) s = .next t ∧
      (m.val < 2 → t.history = s.history ++
        [⟨.exp (.setChannelOnOff s.cfg.motorPair[m.val].2 0 (min 4095 (speed * 16))), .ok⟩,
         ⟨.exp (.setChannelOnOff s.cfg.motorPair[m.val].1 0 0), .ok⟩]) ∧
      (2 ≤ m.val → t.history = s.history ++
        [⟨.exp (.setChannelOnOff s.cfg.motorPair[m.val].1 0 (min 4095 (speed * 16))), .ok⟩,
         ⟨.exp (.setChannelOnOff s.cfg.motorPair[m.val].2 0 0), .ok⟩])) ∧
  (∀ speed : Nat, motorDuty speed = min 4095 (speed * 16)) ∧ motorDuty 0 = 0 ∧ motorDuty 255 = 4080

/-- The motor duty is min(4095, speed x 16); for an 8-bit speed it is a multiple of 16 up to 4080.
Rests on: R183. -/
def Obligations.MotorDutyIsAMultipleOfSixteen : Prop :=
  (∀ speed : Nat, motorDuty speed = min 4095 (speed * 16)) ∧ motorDuty 0 = 0 ∧ motorDuty 255 = 4080 ∧
  (∀ speed < 256, motorDuty speed = speed * 16 ∧ 16 ∣ motorDuty speed ∧ motorDuty speed ≤ 4080 ∧
    motorDuty speed ≠ 4095) ∧
  (∀ speed : Nat, 4096 ≤ speed * 16 → motorDuty speed = 4095)

/-- If the first expander call of INIT, MOVE_SERVO or DRIVE_MOTOR never returns, the block hangs with
nothing else done. That the command answers a next state, the hang, is the model's choice (log entry
6).
Rests on: 00_scope.md section 5; 70_reset_and_hazards.md section 3. -/
def Obligations.FirstExpanderCallStalls : Prop :=
  ∀ (i : Instr) (s : State),
    (i = .init ∧ s.constructed = false ∨
      s.constructed = true ∧ ((∃ m d, i = .moveServo m d) ∨ (∃ m d v, i = .driveMotor m d v))) →
    s.oracle.expReply = .never →
    ∃ (t : State) (c : Call), exec i s = .next t ∧ (plannedCalls s i).head? = some c ∧
      t.history = s.history ++ [⟨c, .never⟩] ∧ t.blocked = some c ∧ t.responses = s.responses ∧
      t.store = s.store ∧ t.pulse = s.pulse ∧ t.txState = s.txState ∧ t.constructed = s.constructed ∧
      t.pwm = s.pwm ∧
      (∀ (ws : List Word) (u : State), step { t with inbox := ws.map .command } ≠ .next u)

/-- INIT with both expander calls answered Ok constructs the block. That the shadow of the expander's
channels is kept is the model's reading (log entry 9, DEDUCED and unsafe).
Rests on: 43_facade.md section 1; 42_channel_mapper.md section 1. -/
def Obligations.InitConstructsTheBlock : Prop :=
  ∀ s : State, s.constructed = false → s.oracle.expReply = .ok → s.oracle.popExp.expReply = .ok →
    exec .init s = .next { s with
      store := s.cfg.storeInit
      txState := .idle
      constructed := true
      history := s.history ++
        [⟨.exp (.new s.cfg.expanderAddr), .ok⟩, ⟨.exp (.setPrescale s.cfg.prescale50Hz), .ok⟩]
      responses := s.responses ++ [⟨0, .empty⟩]
      expander := { s.expander with
        address := some s.cfg.expanderAddr, prescale := some s.cfg.prescale50Hz }
      oracle := s.oracle.popExp.popExp }

/-- A failed INIT leaves constructed 0, undoes nothing, is not retried by the block and may be issued
again.
Rests on: R202. -/
def Obligations.InitFailsAndCanBeRetried : Prop :=
  ∀ (s : State) (e : ExpErr), s.constructed = false →
    (s.oracle.expReply = .err e ∨ (s.oracle.expReply = .ok ∧ s.oracle.popExp.expReply = .err e)) →
    ∃ t, exec .init s = .next t ∧ t.constructed = false ∧
      t.responses = s.responses ++ [⟨2, .expErr e⟩] ∧
      t.store = s.store ∧ t.pulse = s.pulse ∧ t.txState = s.txState ∧ t.pwm = s.pwm ∧
      t.cfg = s.cfg ∧ t.blocked = s.blocked ∧ t.pending = s.pending ∧ t.inbox = s.inbox ∧
      (s.oracle.expReply = .err e →
        t.history = s.history ++ [⟨.exp (.new s.cfg.expanderAddr), .expErr e⟩]) ∧
      (s.oracle.expReply = .ok →
        t.history = s.history ++ [⟨.exp (.new s.cfg.expanderAddr), .ok⟩,
          ⟨.exp (.setPrescale s.cfg.prescale50Hz), .expErr e⟩] ∧
        t.expander.address = some s.cfg.expanderAddr) ∧
      (t.oracle.expReply = .ok → t.oracle.popExp.expReply = .ok →
        ∃ u, exec .init t = .next u ∧ u.constructed = true ∧
          u.history = t.history ++
            [⟨.exp (.new s.cfg.expanderAddr), .ok⟩, ⟨.exp (.setPrescale s.cfg.prescale50Hz), .ok⟩])

/-- Every step keeps: every event is a call with the arguments its rule gives and an answer its contract
allows.
Rests on: 41_show.md sections 3 and 6; 30_encoding.md section 8; 10_state.md section 4. -/
def Obligations.StepKeepsHistoryLegal : Prop :=
  ∀ s t : State, HistoryLegal s → step s = .next t → HistoryLegal t

/-- Every step keeps: at most one call is unanswered, and it is the last one, the one the port is
blocked in. That a hang is a state of the model, with its call unanswered, is the model's choice
(log entry 6).
Rests on: 20_memory.md section 5; 00_scope.md section 5. -/
def Obligations.StepKeepsPortConsistent : Prop :=
  ∀ s t : State, PortConsistent s → step s = .next t → PortConsistent t

/-- Every step keeps: tx_state is Transmitting only in a hang or after a load error that was not
reclaimed. That a hang is a state of the model is its choice (log entry 6).
Rests on: 41_show.md section 4; 10_state.md section 9. -/
def Obligations.StepKeepsTransmitExplained : Prop :=
  ∀ s t : State, TransmitExplained s → step s = .next t → TransmitExplained t

/-- Every step keeps: the channel shadow is canonical and reads, for each channel, what the last write
to it says. That INIT leaves the channels as they were, and that a write that is never answered
makes its channel unknown, is the model's reading (log entry 9, DEDUCED and unsafe).
Rests on: 10_state.md section 6. -/
def Obligations.StepKeepsShadowAgrees : Prop :=
  ∀ s t : State, ShadowAgrees s → step s = .next t → ShadowAgrees t

/-- Every step keeps: the line carries 20-tick periods only, and a buffer is in flight only while the
block waits for it. That a cut frame leaves whole periods on the line, and that a hang is a state of
the model, are the model's choices (log entries 6 and 10).
Rests on: 41_show.md section 5; 10_state.md section 6. -/
def Obligations.StepKeepsLineLegal : Prop :=
  ∀ s t : State, LineLegal s → step s = .next t → LineLegal t

/-- The state after power-on meets every invariant.
Rests on: 10_state.md sections 9 and 10. -/
def Obligations.ResetMeetsTheInvariants : Prop :=
  HistoryLegal State.reset ∧ PortConsistent State.reset ∧ TransmitExplained State.reset ∧
  ShadowAgrees State.reset ∧ LineLegal State.reset

/-- Reversing a running motor with the duty write first passes through a state with both channels non-
zero.
Rests on: R275. -/
def Obligations.ReversalPassesThroughBothChannelsOn : Prop :=
  (∀ (s : State) (m : Fin 4) (dir : Direction) (speed off : Nat), s.constructed = true →
    motorFwd s.cfg m ≠ motorRev s.cfg m → dutyComesFirst s.cfg dir → 0 < speed → 0 < off →
    s.oracle.expReply = .ok →
    s.expander.chan.read (idleChannel s.cfg m dir) = some ⟨0, off⟩ →
    ∃ t, exec (.driveMotor m dir speed) s = .next t ∧
      t.expander.chan.read (drivenChannel s.cfg m dir) = some ⟨0, min 4095 (speed * 16)⟩ ∧
      0 < min 4095 (speed * 16) ∧
      t.expander.chan.read (idleChannel s.cfg m dir) = some ⟨0, off⟩ ∧
      t.responses = s.responses ∧ t.pending = some ⟨idleChannel s.cfg m dir, 0⟩) ∧
  (∀ (s : State) (m : Fin 4) (dir dir' : Direction) (speed : Nat), s.constructed = true →
    s.blocked = none → motorFwd s.cfg m ≠ motorRev s.cfg m →
    s.oracle.expReply = .ok → s.oracle.popExp.expReply = .ok → s.oracle.popExp.popExp.expReply = .ok →
    ∃ t u, execWhole (.driveMotor m dir 0) s = .next t ∧
      t.expander.chan.read (motorFwd s.cfg m) = some ⟨0, 0⟩ ∧
      t.expander.chan.read (motorRev s.cfg m) = some ⟨0, 0⟩ ∧
      exec (.driveMotor m dir' speed) t = .next u ∧
      u.expander.chan.read (idleChannel s.cfg m dir') = some ⟨0, 0⟩)

/-- Between the two writes of DRIVE_MOTOR the port takes no input, and the next step makes the second
write. A reset among the inputs to come waits too, which is the model's choice (log entry 7, DESIGN
CHOICE), for the spec leaves a reset between the two writes open. That the channel is unknown after
a write that is never answered is the model's reading (log entry 9). That the interval is a state of
its own is the model's form of it, and that the hang is a next state its choice (log entries 6 and
20).
Rests on: 20_memory.md section 3; 42_channel_mapper.md section 5. -/
def Obligations.RunningMotorCommandMakesItsSecondWrite : Prop :=
  ∀ (s : State) (w : ChannelWrite), s.blocked = none → s.pending = some w →
    (s.oracle.expReply = .ok → step s = .next { s with
      pending := none
      history := s.history ++ [⟨.exp (.setChannelOnOff w.ch 0 w.off), .ok⟩]
      responses := s.responses ++ [⟨0, .empty⟩]
      expander := { s.expander with chan := s.expander.chan.write w.ch ⟨0, w.off⟩ }
      oracle := s.oracle.popExp }) ∧
    (∀ e, s.oracle.expReply = .err e → step s = .next { s with
      pending := none
      history := s.history ++ [⟨.exp (.setChannelOnOff w.ch 0 w.off), .expErr e⟩]
      responses := s.responses ++ [⟨2, .expErr e⟩]
      expander := { s.expander with chan := s.expander.chan.forget w.ch }
      oracle := s.oracle.popExp }) ∧
    (s.oracle.expReply = .never → step s = .next { s with
      pending := none
      history := s.history ++ [⟨.exp (.setChannelOnOff w.ch 0 w.off), .never⟩]
      blocked := some (.exp (.setChannelOnOff w.ch 0 w.off))
      expander := { s.expander with chan := s.expander.chan.forget w.ch }
      oracle := s.oracle.popExp })

/-- If the second expander call of INIT or DRIVE_MOTOR never returns, the first stays in effect and the
block hangs. That INIT leaves the shadow of the channels as it was, and the prescale unknown, and
that a channel is unknown after a write that is never answered, is the model's reading (log entry 9,
DEDUCED and unsafe), not a sentence of the spec. That the hang is a next state is the model's choice
(log entry 6).
Rests on: 00_scope.md section 5; 95_test_vectors.md section 2.6. -/
def Obligations.SecondExpanderCallStalls : Prop :=
  ∀ (i : Instr) (s : State), s.blocked = none → s.pending = none →
    s.oracle.expReply = .ok → s.oracle.popExp.expReply = .never →
    (i = .init ∧ s.constructed = false ∨ s.constructed = true ∧ ∃ m d v, i = .driveMotor m d v) →
    ∃ (t : State) (c d : Call), execWhole i s = .next t ∧ plannedCalls s i = [c, d] ∧
      t.history = s.history ++ [⟨c, .ok⟩, ⟨d, .never⟩] ∧ t.blocked = some d ∧ t.pending = none ∧
      t.responses = s.responses ∧ t.store = s.store ∧ t.pulse = s.pulse ∧ t.txState = s.txState ∧
      t.constructed = s.constructed ∧ t.pwm = s.pwm ∧
      (i = .init → t.expander =
        { s.expander with address := some s.cfg.expanderAddr, prescale := none }) ∧
      (∀ m dir v, i = .driveMotor m dir v →
        t.expander.chan.read (motorSecond s.cfg m dir v).ch = none ∧
        (motorFwd s.cfg m ≠ motorRev s.cfg m →
          t.expander.chan.read (motorFirst s.cfg m dir v).ch =
            some ⟨0, (motorFirst s.cfg m dir v).off⟩)) ∧
      (∀ (ws : List Word) (u : State), step { t with inbox := ws.map .command } ≠ .next u)

/-- If one of SHOW's five setter calls never returns, SHOW hangs before it loads anything. That a setter
may never return is read from the rule on stalls (log entry 5), and that the hang is a next state is
the model's choice (log entry 6).
Rests on: 00_scope.md section 5; 41_show.md section 3. -/
def Obligations.SetterThatNeverReturnsHangsShow : Prop :=
  ∀ (s : State) (n : Nat), s.constructed = true → s.txState = .idle → n < 5 →
    (∀ k < n, (Oracle.popSetter^[k] s.oracle).setterReply = .returns) →
    (Oracle.popSetter^[n] s.oracle).setterReply = .never →
    ∃ (t : State) (x : PwmSetting), exec .showFrame s = .next t ∧
      [.counterMode .up, .prescaler s.cfg.pwmPrescaler, .maxDuty 20, .loopMode .disabled,
        .loadMode .common][n]? = some x ∧
      t.history.map Event.call = s.history.map Event.call ++ (plannedCalls s .showFrame).take (n + 1) ∧
      t.history.getLast? = some ⟨.pwmSet x, .never⟩ ∧ t.blocked = some (.pwmSet x) ∧
      t.responses = s.responses ∧ t.txState = .idle ∧ t.store = s.store ∧
      t.pulse = encodeFrame s.cfg s.store ∧ t.pwm.wire = s.pwm.wire ∧ t.pwm.inFlight = s.pwm.inFlight ∧
      (∀ (ws : List Word) (u : State), step { t with inbox := ws.map .command } ≠ .next u)

/-- What a failed INIT leaves of the expander's shadow: the channels as they were, the prescale unknown.
The spec says only that it is unknown whether the chip was touched: that the channels are kept is
the model's choice (log entry 9, DEDUCED and unsafe).
Rests on: 60_exceptions.md section 3; 10_state.md section 6. -/
def Obligations.FailedInitAndTheChipsShadow : Prop :=
  ∀ (s : State) (e : ExpErr), s.constructed = false →
    (s.oracle.expReply = .err e ∨ (s.oracle.expReply = .ok ∧ s.oracle.popExp.expReply = .err e)) →
    ∃ t, exec .init s = .next t ∧ t.expander.chan = s.expander.chan ∧ t.expander.prescale = none ∧
      (s.oracle.expReply = .err e → t.expander.address = none)
end

