-- ==== Sys2Proof/Laws/State.lean ====
section
/-!
SUPPORT. What each named update of the state leaves in each field: true by rfl, for simp.
-/

namespace Sys2Proof.Machine

/-! `State.respond` -/

@[simp] theorem State.respond_cfg (s : State) (c : Completion) :
    (s.respond c).cfg = s.cfg := rfl
@[simp] theorem State.respond_store (s : State) (c : Completion) :
    (s.respond c).store = s.store := rfl
@[simp] theorem State.respond_pulse (s : State) (c : Completion) :
    (s.respond c).pulse = s.pulse := rfl
@[simp] theorem State.respond_txState (s : State) (c : Completion) :
    (s.respond c).txState = s.txState := rfl
@[simp] theorem State.respond_constructed (s : State) (c : Completion) :
    (s.respond c).constructed = s.constructed := rfl
@[simp] theorem State.respond_history (s : State) (c : Completion) :
    (s.respond c).history = s.history := rfl
@[simp] theorem State.respond_responses (s : State) (c : Completion) :
    (s.respond c).responses = s.responses ++ [encodeResponse c] := rfl
@[simp] theorem State.respond_blocked (s : State) (c : Completion) :
    (s.respond c).blocked = s.blocked := rfl
@[simp] theorem State.respond_pending (s : State) (c : Completion) :
    (s.respond c).pending = s.pending := rfl
@[simp] theorem State.respond_pwm (s : State) (c : Completion) :
    (s.respond c).pwm = s.pwm := rfl
@[simp] theorem State.respond_expander (s : State) (c : Completion) :
    (s.respond c).expander = s.expander := rfl
@[simp] theorem State.respond_inbox (s : State) (c : Completion) :
    (s.respond c).inbox = s.inbox := rfl
@[simp] theorem State.respond_oracle (s : State) (c : Completion) :
    (s.respond c).oracle = s.oracle := rfl

/-! `State.raise` -/

@[simp] theorem State.raise_cfg (s : State) (e : LeafError) :
    (s.raise e).cfg = s.cfg := rfl
@[simp] theorem State.raise_store (s : State) (e : LeafError) :
    (s.raise e).store = s.store := rfl
@[simp] theorem State.raise_pulse (s : State) (e : LeafError) :
    (s.raise e).pulse = s.pulse := rfl
@[simp] theorem State.raise_txState (s : State) (e : LeafError) :
    (s.raise e).txState = s.txState := rfl
@[simp] theorem State.raise_constructed (s : State) (e : LeafError) :
    (s.raise e).constructed = s.constructed := rfl
@[simp] theorem State.raise_history (s : State) (e : LeafError) :
    (s.raise e).history = s.history := rfl
@[simp] theorem State.raise_responses (s : State) (e : LeafError) :
    (s.raise e).responses = s.responses ++ [encodeResponse (.error (wrapError e))] := rfl
@[simp] theorem State.raise_blocked (s : State) (e : LeafError) :
    (s.raise e).blocked = s.blocked := rfl
@[simp] theorem State.raise_pending (s : State) (e : LeafError) :
    (s.raise e).pending = s.pending := rfl
@[simp] theorem State.raise_pwm (s : State) (e : LeafError) :
    (s.raise e).pwm = s.pwm := rfl
@[simp] theorem State.raise_expander (s : State) (e : LeafError) :
    (s.raise e).expander = s.expander := rfl
@[simp] theorem State.raise_inbox (s : State) (e : LeafError) :
    (s.raise e).inbox = s.inbox := rfl
@[simp] theorem State.raise_oracle (s : State) (e : LeafError) :
    (s.raise e).oracle = s.oracle := rfl

/-! `State.stall` -/

@[simp] theorem State.stall_cfg (s : State) (c : Call) :
    (s.stall c).cfg = s.cfg := rfl
@[simp] theorem State.stall_store (s : State) (c : Call) :
    (s.stall c).store = s.store := rfl
@[simp] theorem State.stall_pulse (s : State) (c : Call) :
    (s.stall c).pulse = s.pulse := rfl
@[simp] theorem State.stall_txState (s : State) (c : Call) :
    (s.stall c).txState = s.txState := rfl
@[simp] theorem State.stall_constructed (s : State) (c : Call) :
    (s.stall c).constructed = s.constructed := rfl
@[simp] theorem State.stall_history (s : State) (c : Call) :
    (s.stall c).history = s.history := rfl
@[simp] theorem State.stall_responses (s : State) (c : Call) :
    (s.stall c).responses = s.responses := rfl
@[simp] theorem State.stall_blocked (s : State) (c : Call) :
    (s.stall c).blocked = some c := rfl
@[simp] theorem State.stall_pending (s : State) (c : Call) :
    (s.stall c).pending = s.pending := rfl
@[simp] theorem State.stall_pwm (s : State) (c : Call) :
    (s.stall c).pwm = s.pwm := rfl
@[simp] theorem State.stall_expander (s : State) (c : Call) :
    (s.stall c).expander = s.expander := rfl
@[simp] theorem State.stall_inbox (s : State) (c : Call) :
    (s.stall c).inbox = s.inbox := rfl
@[simp] theorem State.stall_oracle (s : State) (c : Call) :
    (s.stall c).oracle = s.oracle := rfl

/-! `State.afterSetter` -/

@[simp] theorem State.afterSetter_cfg (s : State) (x : PwmSetting) (r : Return) :
    (s.afterSetter x r).cfg = s.cfg := rfl
@[simp] theorem State.afterSetter_store (s : State) (x : PwmSetting) (r : Return) :
    (s.afterSetter x r).store = s.store := rfl
@[simp] theorem State.afterSetter_pulse (s : State) (x : PwmSetting) (r : Return) :
    (s.afterSetter x r).pulse = s.pulse := rfl
@[simp] theorem State.afterSetter_txState (s : State) (x : PwmSetting) (r : Return) :
    (s.afterSetter x r).txState = s.txState := rfl
@[simp] theorem State.afterSetter_constructed (s : State) (x : PwmSetting) (r : Return) :
    (s.afterSetter x r).constructed = s.constructed := rfl
@[simp] theorem State.afterSetter_history (s : State) (x : PwmSetting) (r : Return) :
    (s.afterSetter x r).history = s.history ++ [⟨.pwmSet x, returnAnswer r⟩] := rfl
@[simp] theorem State.afterSetter_responses (s : State) (x : PwmSetting) (r : Return) :
    (s.afterSetter x r).responses = s.responses := rfl
@[simp] theorem State.afterSetter_blocked (s : State) (x : PwmSetting) (r : Return) :
    (s.afterSetter x r).blocked = s.blocked := rfl
@[simp] theorem State.afterSetter_pending (s : State) (x : PwmSetting) (r : Return) :
    (s.afterSetter x r).pending = s.pending := rfl
@[simp] theorem State.afterSetter_pwm (s : State) (x : PwmSetting) (r : Return) :
    (s.afterSetter x r).pwm = s.pwm.afterSetter x r := rfl
@[simp] theorem State.afterSetter_expander (s : State) (x : PwmSetting) (r : Return) :
    (s.afterSetter x r).expander = s.expander := rfl
@[simp] theorem State.afterSetter_inbox (s : State) (x : PwmSetting) (r : Return) :
    (s.afterSetter x r).inbox = s.inbox := rfl
@[simp] theorem State.afterSetter_oracle (s : State) (x : PwmSetting) (r : Return) :
    (s.afterSetter x r).oracle = s.oracle.popSetter := rfl

/-! `State.afterLoad` -/

@[simp] theorem State.afterLoad_cfg (s : State) (buf : Vector Code 98) (r : Reply PerErr) :
    (s.afterLoad buf r).cfg = s.cfg := rfl
@[simp] theorem State.afterLoad_store (s : State) (buf : Vector Code 98) (r : Reply PerErr) :
    (s.afterLoad buf r).store = s.store := rfl
@[simp] theorem State.afterLoad_pulse (s : State) (buf : Vector Code 98) (r : Reply PerErr) :
    (s.afterLoad buf r).pulse = s.pulse := rfl
@[simp] theorem State.afterLoad_txState (s : State) (buf : Vector Code 98) (r : Reply PerErr) :
    (s.afterLoad buf r).txState = s.txState := rfl
@[simp] theorem State.afterLoad_constructed (s : State) (buf : Vector Code 98) (r : Reply PerErr) :
    (s.afterLoad buf r).constructed = s.constructed := rfl
@[simp] theorem State.afterLoad_history (s : State) (buf : Vector Code 98) (r : Reply PerErr) :
    (s.afterLoad buf r).history = s.history ++ [⟨.pwmLoad buf none true, loadAnswer r⟩] := rfl
@[simp] theorem State.afterLoad_responses (s : State) (buf : Vector Code 98) (r : Reply PerErr) :
    (s.afterLoad buf r).responses = s.responses := rfl
@[simp] theorem State.afterLoad_blocked (s : State) (buf : Vector Code 98) (r : Reply PerErr) :
    (s.afterLoad buf r).blocked = s.blocked := rfl
@[simp] theorem State.afterLoad_pending (s : State) (buf : Vector Code 98) (r : Reply PerErr) :
    (s.afterLoad buf r).pending = s.pending := rfl
@[simp] theorem State.afterLoad_pwm (s : State) (buf : Vector Code 98) (r : Reply PerErr) :
    (s.afterLoad buf r).pwm = s.pwm.afterLoad s.cfg buf (Config.freeSent s.oracle.calls) r := rfl
@[simp] theorem State.afterLoad_expander (s : State) (buf : Vector Code 98) (r : Reply PerErr) :
    (s.afterLoad buf r).expander = s.expander := rfl
@[simp] theorem State.afterLoad_inbox (s : State) (buf : Vector Code 98) (r : Reply PerErr) :
    (s.afterLoad buf r).inbox = s.inbox := rfl
@[simp] theorem State.afterLoad_oracle (s : State) (buf : Vector Code 98) (r : Reply PerErr) :
    (s.afterLoad buf r).oracle = s.oracle.popLoad := rfl

/-! `State.afterSplit` -/

@[simp] theorem State.afterSplit_cfg (s : State) (r : Return) :
    (s.afterSplit r).cfg = s.cfg := rfl
@[simp] theorem State.afterSplit_store (s : State) (r : Return) :
    (s.afterSplit r).store = s.store := rfl
@[simp] theorem State.afterSplit_pulse (s : State) (r : Return) :
    (s.afterSplit r).pulse = s.pulse := rfl
@[simp] theorem State.afterSplit_txState (s : State) (r : Return) :
    (s.afterSplit r).txState = s.txState := rfl
@[simp] theorem State.afterSplit_constructed (s : State) (r : Return) :
    (s.afterSplit r).constructed = s.constructed := rfl
@[simp] theorem State.afterSplit_history (s : State) (r : Return) :
    (s.afterSplit r).history = s.history ++ [⟨.pwmWaitAndSplit, returnAnswer r⟩] := rfl
@[simp] theorem State.afterSplit_responses (s : State) (r : Return) :
    (s.afterSplit r).responses = s.responses := rfl
@[simp] theorem State.afterSplit_blocked (s : State) (r : Return) :
    (s.afterSplit r).blocked = s.blocked := rfl
@[simp] theorem State.afterSplit_pending (s : State) (r : Return) :
    (s.afterSplit r).pending = s.pending := rfl
@[simp] theorem State.afterSplit_pwm (s : State) (r : Return) :
    (s.afterSplit r).pwm = s.pwm.afterSplit s.cfg (Config.freeSent s.oracle.calls) r := rfl
@[simp] theorem State.afterSplit_expander (s : State) (r : Return) :
    (s.afterSplit r).expander = s.expander := rfl
@[simp] theorem State.afterSplit_inbox (s : State) (r : Return) :
    (s.afterSplit r).inbox = s.inbox := rfl
@[simp] theorem State.afterSplit_oracle (s : State) (r : Return) :
    (s.afterSplit r).oracle = s.oracle.popSplit := rfl

/-! `State.afterExp` -/

@[simp] theorem State.afterExp_cfg (s : State) (c : ExpCall) (r : Reply ExpErr) :
    (s.afterExp c r).cfg = s.cfg := rfl
@[simp] theorem State.afterExp_store (s : State) (c : ExpCall) (r : Reply ExpErr) :
    (s.afterExp c r).store = s.store := rfl
@[simp] theorem State.afterExp_pulse (s : State) (c : ExpCall) (r : Reply ExpErr) :
    (s.afterExp c r).pulse = s.pulse := rfl
@[simp] theorem State.afterExp_txState (s : State) (c : ExpCall) (r : Reply ExpErr) :
    (s.afterExp c r).txState = s.txState := rfl
@[simp] theorem State.afterExp_constructed (s : State) (c : ExpCall) (r : Reply ExpErr) :
    (s.afterExp c r).constructed = s.constructed := rfl
@[simp] theorem State.afterExp_history (s : State) (c : ExpCall) (r : Reply ExpErr) :
    (s.afterExp c r).history = s.history ++ [⟨.exp c, expAnswer r⟩] := rfl
@[simp] theorem State.afterExp_responses (s : State) (c : ExpCall) (r : Reply ExpErr) :
    (s.afterExp c r).responses = s.responses := rfl
@[simp] theorem State.afterExp_blocked (s : State) (c : ExpCall) (r : Reply ExpErr) :
    (s.afterExp c r).blocked = s.blocked := rfl
@[simp] theorem State.afterExp_pending (s : State) (c : ExpCall) (r : Reply ExpErr) :
    (s.afterExp c r).pending = s.pending := rfl
@[simp] theorem State.afterExp_pwm (s : State) (c : ExpCall) (r : Reply ExpErr) :
    (s.afterExp c r).pwm = s.pwm := rfl
@[simp] theorem State.afterExp_expander (s : State) (c : ExpCall) (r : Reply ExpErr) :
    (s.afterExp c r).expander = s.expander.afterCall c r := rfl
@[simp] theorem State.afterExp_inbox (s : State) (c : ExpCall) (r : Reply ExpErr) :
    (s.afterExp c r).inbox = s.inbox := rfl
@[simp] theorem State.afterExp_oracle (s : State) (c : ExpCall) (r : Reply ExpErr) :
    (s.afterExp c r).oracle = s.oracle.popExp := rfl

/-! `State.applyReset` -/

@[simp] theorem State.applyReset_cfg (s : State) :
    s.applyReset.cfg = s.cfg := rfl
@[simp] theorem State.applyReset_store (s : State) :
    s.applyReset.store = s.cfg.storeInit := rfl
@[simp] theorem State.applyReset_pulse (s : State) :
    s.applyReset.pulse = Config.freePulse s.oracle.calls := rfl
@[simp] theorem State.applyReset_txState (s : State) :
    s.applyReset.txState = .idle := rfl
@[simp] theorem State.applyReset_constructed (s : State) :
    s.applyReset.constructed = false := rfl
@[simp] theorem State.applyReset_history (s : State) :
    s.applyReset.history = [] := rfl
@[simp] theorem State.applyReset_responses (s : State) :
    s.applyReset.responses = [] := rfl
@[simp] theorem State.applyReset_blocked (s : State) :
    s.applyReset.blocked = s.blocked := rfl
@[simp] theorem State.applyReset_pending (s : State) :
    s.applyReset.pending = none := rfl
@[simp] theorem State.applyReset_pwm (s : State) :
    s.applyReset.pwm = s.pwm := rfl
@[simp] theorem State.applyReset_expander (s : State) :
    s.applyReset.expander = s.expander := rfl
@[simp] theorem State.applyReset_inbox (s : State) :
    s.applyReset.inbox = s.inbox := rfl
@[simp] theorem State.applyReset_oracle (s : State) :
    s.applyReset.oracle = { s.oracle with calls := s.oracle.calls + 1 } := rfl

/-! `State.take` -/

@[simp] theorem State.take_cfg (s : State) (rest : List Input) :
    (s.take rest).cfg = s.cfg := rfl
@[simp] theorem State.take_store (s : State) (rest : List Input) :
    (s.take rest).store = s.store := rfl
@[simp] theorem State.take_pulse (s : State) (rest : List Input) :
    (s.take rest).pulse = s.pulse := rfl
@[simp] theorem State.take_txState (s : State) (rest : List Input) :
    (s.take rest).txState = s.txState := rfl
@[simp] theorem State.take_constructed (s : State) (rest : List Input) :
    (s.take rest).constructed = s.constructed := rfl
@[simp] theorem State.take_history (s : State) (rest : List Input) :
    (s.take rest).history = s.history := rfl
@[simp] theorem State.take_responses (s : State) (rest : List Input) :
    (s.take rest).responses = s.responses := rfl
@[simp] theorem State.take_blocked (s : State) (rest : List Input) :
    (s.take rest).blocked = s.blocked := rfl
@[simp] theorem State.take_pending (s : State) (rest : List Input) :
    (s.take rest).pending = s.pending := rfl
@[simp] theorem State.take_pwm (s : State) (rest : List Input) :
    (s.take rest).pwm = s.pwm := rfl
@[simp] theorem State.take_expander (s : State) (rest : List Input) :
    (s.take rest).expander = s.expander := rfl
@[simp] theorem State.take_inbox (s : State) (rest : List Input) :
    (s.take rest).inbox = rest := rfl
@[simp] theorem State.take_oracle (s : State) (rest : List Input) :
    (s.take rest).oracle = s.oracle := rfl

/-! `State.setTx` -/

@[simp] theorem State.setTx_cfg (s : State) (t : TxState) :
    (s.setTx t).cfg = s.cfg := rfl
@[simp] theorem State.setTx_store (s : State) (t : TxState) :
    (s.setTx t).store = s.store := rfl
@[simp] theorem State.setTx_pulse (s : State) (t : TxState) :
    (s.setTx t).pulse = s.pulse := rfl
@[simp] theorem State.setTx_txState (s : State) (t : TxState) :
    (s.setTx t).txState = t := rfl
@[simp] theorem State.setTx_constructed (s : State) (t : TxState) :
    (s.setTx t).constructed = s.constructed := rfl
@[simp] theorem State.setTx_history (s : State) (t : TxState) :
    (s.setTx t).history = s.history := rfl
@[simp] theorem State.setTx_responses (s : State) (t : TxState) :
    (s.setTx t).responses = s.responses := rfl
@[simp] theorem State.setTx_blocked (s : State) (t : TxState) :
    (s.setTx t).blocked = s.blocked := rfl
@[simp] theorem State.setTx_pending (s : State) (t : TxState) :
    (s.setTx t).pending = s.pending := rfl
@[simp] theorem State.setTx_pwm (s : State) (t : TxState) :
    (s.setTx t).pwm = s.pwm := rfl
@[simp] theorem State.setTx_expander (s : State) (t : TxState) :
    (s.setTx t).expander = s.expander := rfl
@[simp] theorem State.setTx_inbox (s : State) (t : TxState) :
    (s.setTx t).inbox = s.inbox := rfl
@[simp] theorem State.setTx_oracle (s : State) (t : TxState) :
    (s.setTx t).oracle = s.oracle := rfl

/-! `State.fillPulse` -/

@[simp] theorem State.fillPulse_cfg (s : State) :
    s.fillPulse.cfg = s.cfg := rfl
@[simp] theorem State.fillPulse_store (s : State) :
    s.fillPulse.store = s.store := rfl
@[simp] theorem State.fillPulse_pulse (s : State) :
    s.fillPulse.pulse = encodeFrame s.cfg s.store := rfl
@[simp] theorem State.fillPulse_txState (s : State) :
    s.fillPulse.txState = s.txState := rfl
@[simp] theorem State.fillPulse_constructed (s : State) :
    s.fillPulse.constructed = s.constructed := rfl
@[simp] theorem State.fillPulse_history (s : State) :
    s.fillPulse.history = s.history := rfl
@[simp] theorem State.fillPulse_responses (s : State) :
    s.fillPulse.responses = s.responses := rfl
@[simp] theorem State.fillPulse_blocked (s : State) :
    s.fillPulse.blocked = s.blocked := rfl
@[simp] theorem State.fillPulse_pending (s : State) :
    s.fillPulse.pending = s.pending := rfl
@[simp] theorem State.fillPulse_pwm (s : State) :
    s.fillPulse.pwm = s.pwm := rfl
@[simp] theorem State.fillPulse_expander (s : State) :
    s.fillPulse.expander = s.expander := rfl
@[simp] theorem State.fillPulse_inbox (s : State) :
    s.fillPulse.inbox = s.inbox := rfl
@[simp] theorem State.fillPulse_oracle (s : State) :
    s.fillPulse.oracle = s.oracle := rfl

/-! `State.construct` -/

@[simp] theorem State.construct_cfg (s : State) :
    s.construct.cfg = s.cfg := rfl
@[simp] theorem State.construct_store (s : State) :
    s.construct.store = s.cfg.storeInit := rfl
@[simp] theorem State.construct_pulse (s : State) :
    s.construct.pulse = s.pulse := rfl
@[simp] theorem State.construct_txState (s : State) :
    s.construct.txState = .idle := rfl
@[simp] theorem State.construct_constructed (s : State) :
    s.construct.constructed = true := rfl
@[simp] theorem State.construct_history (s : State) :
    s.construct.history = s.history := rfl
@[simp] theorem State.construct_responses (s : State) :
    s.construct.responses = s.responses := rfl
@[simp] theorem State.construct_blocked (s : State) :
    s.construct.blocked = s.blocked := rfl
@[simp] theorem State.construct_pending (s : State) :
    s.construct.pending = s.pending := rfl
@[simp] theorem State.construct_pwm (s : State) :
    s.construct.pwm = s.pwm := rfl
@[simp] theorem State.construct_expander (s : State) :
    s.construct.expander = s.expander := rfl
@[simp] theorem State.construct_inbox (s : State) :
    s.construct.inbox = s.inbox := rfl
@[simp] theorem State.construct_oracle (s : State) :
    s.construct.oracle = s.oracle := rfl

/-! `State.holdWrite` -/

@[simp] theorem State.holdWrite_cfg (s : State) (w : ChannelWrite) :
    (s.holdWrite w).cfg = s.cfg := rfl
@[simp] theorem State.holdWrite_store (s : State) (w : ChannelWrite) :
    (s.holdWrite w).store = s.store := rfl
@[simp] theorem State.holdWrite_pulse (s : State) (w : ChannelWrite) :
    (s.holdWrite w).pulse = s.pulse := rfl
@[simp] theorem State.holdWrite_txState (s : State) (w : ChannelWrite) :
    (s.holdWrite w).txState = s.txState := rfl
@[simp] theorem State.holdWrite_constructed (s : State) (w : ChannelWrite) :
    (s.holdWrite w).constructed = s.constructed := rfl
@[simp] theorem State.holdWrite_history (s : State) (w : ChannelWrite) :
    (s.holdWrite w).history = s.history := rfl
@[simp] theorem State.holdWrite_responses (s : State) (w : ChannelWrite) :
    (s.holdWrite w).responses = s.responses := rfl
@[simp] theorem State.holdWrite_blocked (s : State) (w : ChannelWrite) :
    (s.holdWrite w).blocked = s.blocked := rfl
@[simp] theorem State.holdWrite_pending (s : State) (w : ChannelWrite) :
    (s.holdWrite w).pending = some w := rfl
@[simp] theorem State.holdWrite_pwm (s : State) (w : ChannelWrite) :
    (s.holdWrite w).pwm = s.pwm := rfl
@[simp] theorem State.holdWrite_expander (s : State) (w : ChannelWrite) :
    (s.holdWrite w).expander = s.expander := rfl
@[simp] theorem State.holdWrite_inbox (s : State) (w : ChannelWrite) :
    (s.holdWrite w).inbox = s.inbox := rfl
@[simp] theorem State.holdWrite_oracle (s : State) (w : ChannelWrite) :
    (s.holdWrite w).oracle = s.oracle := rfl

/-! `State.takeWrite` -/

@[simp] theorem State.takeWrite_cfg (s : State) :
    s.takeWrite.cfg = s.cfg := rfl
@[simp] theorem State.takeWrite_store (s : State) :
    s.takeWrite.store = s.store := rfl
@[simp] theorem State.takeWrite_pulse (s : State) :
    s.takeWrite.pulse = s.pulse := rfl
@[simp] theorem State.takeWrite_txState (s : State) :
    s.takeWrite.txState = s.txState := rfl
@[simp] theorem State.takeWrite_constructed (s : State) :
    s.takeWrite.constructed = s.constructed := rfl
@[simp] theorem State.takeWrite_history (s : State) :
    s.takeWrite.history = s.history := rfl
@[simp] theorem State.takeWrite_responses (s : State) :
    s.takeWrite.responses = s.responses := rfl
@[simp] theorem State.takeWrite_blocked (s : State) :
    s.takeWrite.blocked = s.blocked := rfl
@[simp] theorem State.takeWrite_pending (s : State) :
    s.takeWrite.pending = none := rfl
@[simp] theorem State.takeWrite_pwm (s : State) :
    s.takeWrite.pwm = s.pwm := rfl
@[simp] theorem State.takeWrite_expander (s : State) :
    s.takeWrite.expander = s.expander := rfl
@[simp] theorem State.takeWrite_inbox (s : State) :
    s.takeWrite.inbox = s.inbox := rfl
@[simp] theorem State.takeWrite_oracle (s : State) :
    s.takeWrite.oracle = s.oracle := rfl

end Sys2Proof.Machine
end

