-- ==== Sys2Proof/Laws/Calls.lean ====
section
/-!
SUPPORT. What each shared operation can do, said once: a collaborator call goes on, ends the command with
an error, or stalls; a property of the state after a command is shown by its three cases.
-/

namespace Sys2Proof.Machine

/-- A setter call goes on or stalls. -/
theorem callSetter_elim {P : State → Prop} (x : PwmSetting) (s : State) (k : State → State)
    (hok : s.oracle.setterReply = .returns → P (k (s.afterSetter x .returns)))
    (hnever : s.oracle.setterReply = .never → P ((s.afterSetter x .never).stall (.pwmSet x))) :
    P (callSetter x s k) := by
  unfold callSetter
  split
  · exact hok ‹_›
  · exact hnever ‹_›

/-- A load goes on, ends the command with `PeripheralError`, or stalls. -/
theorem callLoad_elim {P : State → Prop} (buf : Vector Code 98) (s : State) (onError k : State → State)
    (hok : s.oracle.loadReply = .ok → P (k (s.afterLoad buf .ok)))
    (herr : ∀ e, s.oracle.loadReply = .err e →
      P ((onError (s.afterLoad buf (.err e))).raise (.transmit e)))
    (hnever : s.oracle.loadReply = .never → P ((s.afterLoad buf .never).stall (.pwmLoad buf none true))) :
    P (callLoad buf s onError k) := by
  unfold callLoad
  split
  · exact hok ‹_›
  · exact herr _ ‹_›
  · exact hnever ‹_›

/-- The wait goes on or stalls. -/
theorem callSplit_elim {P : State → Prop} (s : State) (k : State → State)
    (hok : s.oracle.splitReply = .returns → P (k (s.afterSplit .returns)))
    (hnever : s.oracle.splitReply = .never → P ((s.afterSplit .never).stall .pwmWaitAndSplit)) :
    P (callSplit s k) := by
  unfold callSplit
  split
  · exact hok ‹_›
  · exact hnever ‹_›

/-- An expander call goes on, ends the command with `ExpanderError`, or stalls. -/
theorem callExp_elim {P : State → Prop} (c : ExpCall) (s : State) (k : State → State)
    (hok : s.oracle.expReply = .ok → P (k (s.afterExp c .ok)))
    (herr : ∀ e, s.oracle.expReply = .err e → P ((s.afterExp c (.err e)).raise (.mapper e)))
    (hnever : s.oracle.expReply = .never → P ((s.afterExp c .never).stall (.exp c))) :
    P (callExp c s k) := by
  unfold callExp
  split
  · exact hok ‹_›
  · exact herr _ ‹_›
  · exact hnever ‹_›

@[simp] theorem callSetter_returns {x : PwmSetting} {s : State} {k : State → State}
    (h : s.oracle.setterReply = .returns) : callSetter x s k = k (s.afterSetter x .returns) := by
  simp [callSetter, h]

@[simp] theorem callLoad_ok {buf : Vector Code 98} {s : State} {onError k : State → State}
    (h : s.oracle.loadReply = .ok) : callLoad buf s onError k = k (s.afterLoad buf .ok) := by
  simp [callLoad, h]

@[simp] theorem callLoad_err {buf : Vector Code 98} {s : State} {onError k : State → State} {e : PerErr}
    (h : s.oracle.loadReply = .err e) :
    callLoad buf s onError k = (onError (s.afterLoad buf (.err e))).raise (.transmit e) := by
  simp [callLoad, h]

@[simp] theorem callLoad_never {buf : Vector Code 98} {s : State} {onError k : State → State}
    (h : s.oracle.loadReply = .never) :
    callLoad buf s onError k = (s.afterLoad buf .never).stall (.pwmLoad buf none true) := by
  simp [callLoad, h]

@[simp] theorem callSplit_returns {s : State} {k : State → State}
    (h : s.oracle.splitReply = .returns) : callSplit s k = k (s.afterSplit .returns) := by
  simp [callSplit, h]

@[simp] theorem callSplit_never {s : State} {k : State → State}
    (h : s.oracle.splitReply = .never) : callSplit s k = (s.afterSplit .never).stall .pwmWaitAndSplit := by
  simp [callSplit, h]

@[simp] theorem callExp_ok {c : ExpCall} {s : State} {k : State → State}
    (h : s.oracle.expReply = .ok) : callExp c s k = k (s.afterExp c .ok) := by
  simp [callExp, h]

@[simp] theorem callExp_err {c : ExpCall} {s : State} {k : State → State} {e : ExpErr}
    (h : s.oracle.expReply = .err e) : callExp c s k = (s.afterExp c (.err e)).raise (.mapper e) := by
  simp [callExp, h]

@[simp] theorem callExp_never {c : ExpCall} {s : State} {k : State → State}
    (h : s.oracle.expReply = .never) : callExp c s k = (s.afterExp c .never).stall (.exp c) := by
  simp [callExp, h]

/-! A run of setter calls that all return (41_show.md R137). -/

/-- The state after setter calls that all returned. -/
def State.afterSetters (s : State) (xs : List PwmSetting) : State :=
  xs.foldl (fun s x => s.afterSetter x .returns) s

/-- If every setter returns, the command goes on after all of them. -/
theorem callSetters_returns (xs : List PwmSetting) (s : State) (k : State → State)
    (h : ∀ n < xs.length, (Oracle.popSetter^[n] s.oracle).setterReply = .returns) :
    callSetters xs s k = k (s.afterSetters xs) := by
  induction xs generalizing s with
  | nil => rfl
  | cons x xs ih =>
    have h0 : s.oracle.setterReply = .returns := h 0 (by simp)
    rw [callSetters, callSetter_returns h0]
    exact ih _ fun n hn => h (n + 1) (by simpa using hn)

theorem State.afterSetters_cons (s : State) (x : PwmSetting) (xs : List PwmSetting) :
    s.afterSetters (x :: xs) = (s.afterSetter x .returns).afterSetters xs := rfl

/-- Setter calls that returned change the history, the settings and the oracle only. -/
theorem State.afterSetters_eq (s : State) (xs : List PwmSetting) :
    s.afterSetters xs =
      { s with
        history := s.history ++ xs.map fun x => ⟨.pwmSet x, .returned⟩
        pwm := xs.foldl (fun p x => p.apply x) s.pwm
        oracle := Oracle.popSetter^[xs.length] s.oracle } := by
  induction xs generalizing s with
  | nil => simp [State.afterSetters]
  | cons x xs ih =>
    rw [State.afterSetters_cons, ih]
    simp [State.afterSetter, Pwm.afterSetter, returnAnswer]

/-- What `step` can do when it answers a next state: make the second write of a running DRIVE_MOTOR, wait,
reset, or run the word in front of the port. -/
theorem step_next_cases {s t : State} (h : step s = .next t) :
    s.blocked = none ∧
    ((∃ w, s.pending = some w ∧ t = finishDriveMotor w s) ∨
     (s.pending = none ∧ s.inbox = [] ∧ t = s) ∨
     (∃ rest, s.pending = none ∧ s.inbox = .reset :: rest ∧ t = (s.take rest).applyReset) ∨
     (∃ w rest i, s.pending = none ∧ s.inbox = .command w :: rest ∧ decode w = .ok i ∧
       exec i (s.take rest) = .next t)) := by
  unfold step portOffer at h
  cases hb : s.blocked with
  | some c =>
    cases hi : s.inbox with
    | nil => simp [hb, hi] at h
    | cons x rest => cases x <;> simp [hb, hi] at h
  | none =>
    refine ⟨rfl, ?_⟩
    cases hp : s.pending with
    | some w =>
      simp only [hb, hp, Host.Outcome.next.injEq] at h
      exact .inl ⟨w, rfl, h.symm⟩
    | none =>
      cases hi : s.inbox with
      | nil =>
        simp only [hb, hp, hi, Host.Outcome.next.injEq] at h
        exact .inr (.inl ⟨rfl, rfl, h.symm⟩)
      | cons x rest =>
        cases x with
        | reset =>
          simp only [hb, hp, hi, Host.Outcome.next.injEq] at h
          exact .inr (.inr (.inl ⟨rest, rfl, rfl, h.symm⟩))
        | command w =>
          simp only [hb, hp, hi, runWord] at h
          split at h
          · exact .inr (.inr (.inr ⟨w, rest, _, rfl, rfl, ‹_›, h⟩))
          · contradiction

/-- A free port between commands runs the decoded word in front of it. -/
theorem step_command {s : State} {w : Word} {rest : List Input} {i : Instr} (hb : s.blocked = none)
    (hp : s.pending = none) (hi : s.inbox = .command w :: rest) (hd : decode w = .ok i) :
    step s = exec i (s.take rest) := by
  simp [step, portOffer, hb, hp, hi, runWord, hd]

/-- A block between the two writes of DRIVE_MOTOR makes the second one. -/
theorem step_running {s : State} {w : ChannelWrite} (hb : s.blocked = none) (hp : s.pending = some w) :
    step s = .next (finishDriveMotor w s) := by
  simp [step, portOffer, hb, hp]

/-- A hung block has no next state. -/
theorem step_hung {s : State} {c : Call} (hb : s.blocked = some c) (t : State) : step s ≠ .next t := by
  intro h
  simpa [hb] using (step_next_cases h).1

/-- A guarded command that answers a next state ran at a constructed block. -/
theorem whenConstructed_next {s t : State} {r : Result} (h : whenConstructed s r = .next t) :
    s.constructed = true ∧ r = .next t := by
  unfold whenConstructed at h
  split at h
  · exact ⟨‹_›, h⟩
  · contradiction

@[simp] theorem whenConstructed_true {s : State} {r : Result} (h : s.constructed = true) :
    whenConstructed s r = r := by simp [whenConstructed, h]

@[simp] theorem whenConstructed_false {s : State} {r : Result} (h : s.constructed = false) :
    whenConstructed s r = .refused .notConstructed := by simp [whenConstructed, h]

end Sys2Proof.Machine
end

