-- ==== Sys2Proof/Laws/ChannelMap.lean ====
section
/-!
SUPPORT. The expander channel shadow: reading after a write or a forget, and the canonical form, which
every operation keeps.
-/

namespace Sys2Proof.Machine

@[simp] theorem ChannelMap.read_nil (ch : Nat) : ChannelMap.read [] ch = none := rfl

theorem ChannelMap.read_cons (x : Nat × TickPair) (m : ChannelMap) (ch : Nat) :
    ChannelMap.read (x :: m) ch = if x.1 = ch then some x.2 else ChannelMap.read m ch := by
  by_cases h : x.1 = ch <;> simp [ChannelMap.read, h]

/-- Reading the written channel gives the written pair. -/
@[simp] theorem ChannelMap.read_write_same (m : ChannelMap) (ch : Nat) (v : TickPair) :
    (m.write ch v).read ch = some v := by
  induction m with
  | nil => simp [ChannelMap.write, ChannelMap.read_cons]
  | cons x m ih =>
    simp only [ChannelMap.write]
    split
    · simp [ChannelMap.read_cons]
    · split
      · simp [ChannelMap.read_cons]
      · rename_i h; simp [ChannelMap.read_cons, Ne.symm h, ih]

/-- Writing one channel leaves every other channel as it was. -/
theorem ChannelMap.read_write_other (m : ChannelMap) {ch ch' : Nat} (v : TickPair) (h : ch' ≠ ch) :
    (m.write ch v).read ch' = m.read ch' := by
  induction m with
  | nil => simp [ChannelMap.write, ChannelMap.read_cons, Ne.symm h]
  | cons x m ih =>
    simp only [ChannelMap.write]
    split
    · simp [ChannelMap.read_cons, Ne.symm h]
    · split
      · rename_i hx; simp [ChannelMap.read_cons, Ne.symm h, ← hx]
      · simp [ChannelMap.read_cons, ih]

/-- A forgotten channel is unknown. -/
@[simp] theorem ChannelMap.read_forget_same (m : ChannelMap) (ch : Nat) : (m.forget ch).read ch = none := by
  induction m with
  | nil => rfl
  | cons x m ih =>
    by_cases h : x.1 = ch
    · simpa [ChannelMap.forget, h] using ih
    · have : ChannelMap.forget (x :: m) ch = x :: ChannelMap.forget m ch := by
        simp [ChannelMap.forget, h]
      rw [this, ChannelMap.read_cons, if_neg h, ih]

/-- Forgetting one channel leaves every other channel as it was. -/
theorem ChannelMap.read_forget_other (m : ChannelMap) {ch ch' : Nat} (h : ch' ≠ ch) :
    (m.forget ch).read ch' = m.read ch' := by
  induction m with
  | nil => rfl
  | cons x m ih =>
    by_cases hx : x.1 = ch
    · have : ChannelMap.forget (x :: m) ch = ChannelMap.forget m ch := by simp [ChannelMap.forget, hx]
      rw [this, ih, ChannelMap.read_cons, if_neg (by omega)]
    · have : ChannelMap.forget (x :: m) ch = x :: ChannelMap.forget m ch := by
        simp [ChannelMap.forget, hx]
      rw [this, ChannelMap.read_cons, ChannelMap.read_cons, ih]

/-- Every channel listed after a write was listed before it or is the one written. -/
theorem ChannelMap.mem_write {m : ChannelMap} {ch : Nat} {v : TickPair} {y : Nat × TickPair}
    (h : y ∈ m.write ch v) : y = (ch, v) ∨ y ∈ m := by
  induction m with
  | nil => simpa [ChannelMap.write] using h
  | cons x m ih =>
    simp only [ChannelMap.write] at h
    split at h
    · simpa using h
    · split at h
      · rcases List.mem_cons.1 h with h | h <;> simp [h]
      · rcases List.mem_cons.1 h with h | h
        · simp [h]
        · rcases ih h with h | h <;> simp [h]

/-- A write keeps the canonical form. -/
theorem ChannelMap.write_wf {m : ChannelMap} (ch : Nat) (v : TickPair) (h : m.Wf) : (m.write ch v).Wf := by
  induction m with
  | nil => simp [ChannelMap.write, ChannelMap.Wf]
  | cons x m ih =>
    obtain ⟨hx, hm⟩ := List.pairwise_cons.1 h
    simp only [ChannelMap.write]
    split
    · rename_i hlt
      refine List.pairwise_cons.2 ⟨fun y hy => ?_, h⟩
      rcases List.mem_cons.1 hy with rfl | hy
      · exact hlt
      · exact lt_trans hlt (hx y hy)
    · split
      · rename_i heq
        exact List.pairwise_cons.2 ⟨fun y hy => by simpa [heq] using hx y hy, hm⟩
      · refine List.pairwise_cons.2 ⟨fun y hy => ?_, ih hm⟩
        rcases ChannelMap.mem_write hy with rfl | hy
        · show x.1 < ch
          omega
        · exact hx y hy

/-- Forgetting a channel keeps the canonical form. -/
theorem ChannelMap.forget_wf {m : ChannelMap} (ch : Nat) (h : m.Wf) : (m.forget ch).Wf :=
  h.filter _

/-- A call of the expander driver keeps the shadow canonical. -/
theorem Expander.afterCall_wf {x : Expander} (c : ExpCall) (r : Reply ExpErr) (h : x.chan.Wf) :
    (x.afterCall c r).chan.Wf := by
  cases c <;> cases r <;>
    first
    | exact h
    | exact ChannelMap.write_wf _ _ h
    | exact ChannelMap.forget_wf _ h

/-- The shadow after power-on is canonical. -/
theorem Expander.unknown_wf : Expander.unknown.chan.Wf := List.Pairwise.nil

end Sys2Proof.Machine
end

