-- ==== Sys2Proof/Laws/Commands.lean ====
section
/-!
SUPPORT. What a whole command can do, said once: SHOW past its guard by its five ways to end, and every
command by the state it answers.  A property of the state after a command is shown by these cases; give
the property as `(P := fun t => …)`.
-/

namespace Sys2Proof.Machine

/-! ## Setter calls that returned -/

@[simp] theorem State.afterSetters_cfg (s : State) (xs : List PwmSetting) :
    (s.afterSetters xs).cfg = s.cfg := by rw [State.afterSetters_eq]
@[simp] theorem State.afterSetters_store (s : State) (xs : List PwmSetting) :
    (s.afterSetters xs).store = s.store := by rw [State.afterSetters_eq]
@[simp] theorem State.afterSetters_pulse (s : State) (xs : List PwmSetting) :
    (s.afterSetters xs).pulse = s.pulse := by rw [State.afterSetters_eq]
@[simp] theorem State.afterSetters_txState (s : State) (xs : List PwmSetting) :
    (s.afterSetters xs).txState = s.txState := by rw [State.afterSetters_eq]
@[simp] theorem State.afterSetters_constructed (s : State) (xs : List PwmSetting) :
    (s.afterSetters xs).constructed = s.constructed := by rw [State.afterSetters_eq]
@[simp] theorem State.afterSetters_history (s : State) (xs : List PwmSetting) :
    (s.afterSetters xs).history = s.history ++ xs.map fun x => ⟨.pwmSet x, .returned⟩ := by
  rw [State.afterSetters_eq]
@[simp] theorem State.afterSetters_responses (s : State) (xs : List PwmSetting) :
    (s.afterSetters xs).responses = s.responses := by rw [State.afterSetters_eq]
@[simp] theorem State.afterSetters_blocked (s : State) (xs : List PwmSetting) :
    (s.afterSetters xs).blocked = s.blocked := by rw [State.afterSetters_eq]
@[simp] theorem State.afterSetters_pending (s : State) (xs : List PwmSetting) :
    (s.afterSetters xs).pending = s.pending := by rw [State.afterSetters_eq]
@[simp] theorem State.afterSetters_pwm (s : State) (xs : List PwmSetting) :
    (s.afterSetters xs).pwm = xs.foldl (fun p x => p.apply x) s.pwm := by rw [State.afterSetters_eq]
@[simp] theorem State.afterSetters_expander (s : State) (xs : List PwmSetting) :
    (s.afterSetters xs).expander = s.expander := by rw [State.afterSetters_eq]
@[simp] theorem State.afterSetters_inbox (s : State) (xs : List PwmSetting) :
    (s.afterSetters xs).inbox = s.inbox := by rw [State.afterSetters_eq]

/-! ## What a load error leaves -/

/-- A load error changes `txState` only, and that only where the configuration reclaims. -/
theorem State.afterLoadError_eq (s : State) :
    s.afterLoadError = s.setTx (if s.cfg.reclaimOnError then .idle else s.txState) := by
  unfold State.afterLoadError
  split <;> rfl

/-! ## Whole commands -/

/-- Setter calls in a row all return, or one of them never does and the ones before it did. -/
theorem callSetters_elim {P : State → Prop} (xs : List PwmSetting) (s : State) (k : State → State)
    (hok : P (k (s.afterSetters xs)))
    (hnever : ∀ pre x post, xs = pre ++ x :: post →
      P (((s.afterSetters pre).afterSetter x .never).stall (.pwmSet x))) :
    P (callSetters xs s k) := by
  induction xs generalizing s with
  | nil => exact hok
  | cons x xs ih =>
    rw [callSetters]
    apply callSetter_elim
    · intro _
      refine ih _ hok fun pre y post h => ?_
      exact hnever (x :: pre) y post (by rw [h]; rfl)
    · intro _
      exact hnever [] x xs rfl

/-- SHOW past its guard ends in one of five ways (41_show.md R131, R138, R139, R142). -/
theorem show_elim {P : State → Prop} (s : State)
    (hset : ∀ pre x post, showSettings s.cfg = pre ++ x :: post →
      P (((s.fillPulse.afterSetters pre).afterSetter x .never).stall (.pwmSet x)))
    (herr : ∀ e, P (((((s.fillPulse.afterSetters (showSettings s.cfg)).setTx .transmitting).afterLoad
      (encodeFrame s.cfg s.store) (.err e)).afterLoadError).raise (.transmit e)))
    (hload : P ((((s.fillPulse.afterSetters (showSettings s.cfg)).setTx .transmitting).afterLoad
      (encodeFrame s.cfg s.store) .never).stall (.pwmLoad (encodeFrame s.cfg s.store) none true)))
    (hsplit : P (((((s.fillPulse.afterSetters (showSettings s.cfg)).setTx .transmitting).afterLoad
      (encodeFrame s.cfg s.store) .ok).afterSplit .never).stall .pwmWaitAndSplit))
    (hok : P ((((((s.fillPulse.afterSetters (showSettings s.cfg)).setTx .transmitting).afterLoad
      (encodeFrame s.cfg s.store) .ok).afterSplit .returns).setTx .idle).respond .ok)) :
    P (callSetters (showSettings s.cfg) s.fillPulse transmit) := by
  apply callSetters_elim
  · have hp : (s.fillPulse.afterSetters (showSettings s.cfg)).pulse = encodeFrame s.cfg s.store := by simp
    rw [transmit, hp]
    apply callLoad_elim
    · intro _
      apply callSplit_elim
      · exact fun _ => hok
      · exact fun _ => hsplit
    · exact fun e _ => herr e
    · exact fun _ => hload
  · exact hset

/-- Two expander calls in a row end the command with an error, stall, or both succeed. -/
theorem callExp_two_elim {P : State → Prop} (c d : ExpCall) (s : State) (k : State → State)
    (hok : s.oracle.expReply = .ok → s.oracle.popExp.expReply = .ok →
      P (k ((s.afterExp c .ok).afterExp d .ok)))
    (herr₁ : ∀ e, s.oracle.expReply = .err e → P ((s.afterExp c (.err e)).raise (.mapper e)))
    (hnever₁ : s.oracle.expReply = .never → P ((s.afterExp c .never).stall (.exp c)))
    (herr₂ : ∀ e, s.oracle.expReply = .ok → s.oracle.popExp.expReply = .err e →
      P (((s.afterExp c .ok).afterExp d (.err e)).raise (.mapper e)))
    (hnever₂ : s.oracle.expReply = .ok → s.oracle.popExp.expReply = .never →
      P (((s.afterExp c .ok).afterExp d .never).stall (.exp d))) :
    P (callExp c s fun s => callExp d s k) := by
  apply callExp_elim
  · intro h
    apply callExp_elim
    · exact fun h' => hok h h'
    · exact fun e h' => herr₂ e h h'
    · exact fun h' => hnever₂ h h'
  · exact herr₁
  · exact hnever₁

/-- The second write of DRIVE_MOTOR ends the command well, ends it with an error, or stalls. -/
theorem finishDriveMotor_elim {P : State → Prop} (w : ChannelWrite) (s : State)
    (hok : s.oracle.expReply = .ok → P ((s.takeWrite.afterExp w.call .ok).respond .ok))
    (herr : ∀ e, s.oracle.expReply = .err e → P ((s.takeWrite.afterExp w.call (.err e)).raise (.mapper e)))
    (hnever : s.oracle.expReply = .never → P ((s.takeWrite.afterExp w.call .never).stall (.exp w.call))) :
    P (finishDriveMotor w s) :=
  callExp_elim (P := P) w.call s.takeWrite (fun s => s.respond .ok) hok herr hnever

/-- All the states that a command can answer with: DRIVE_MOTOR between its two writes, every other command at
its end.  Apply it as
`refine exec_elim (P := fun t => …) h ?pix ?bad …`. -/
theorem exec_elim {P : State → Prop} {i : Instr} {s t : State} (h : exec i s = .next t)
    (pix : ∀ p (hp : p < 5) c, i = .setPixel p c → s.constructed = true →
      P ({ s with store := writePixel s.store ⟨p, hp⟩ c }.respond .ok))
    (bad : ∀ p c, i = .setPixel p c → 5 ≤ p → s.constructed = true → P (s.raise .position))
    (all : ∀ c, i = .setAllPixels c → s.constructed = true →
      P ({ s with store := writeAllPixels s.store c }.respond .ok))
    (get : i = .getColors → s.constructed = true → P (s.respond (.colours (readColours s.store))))
    (unbound : i = .showFrame → s.constructed = true → s.txState = .transmitting →
      P (s.raise .pwmIsUnbound))
    (showSet : i = .showFrame → s.constructed = true → s.txState = .idle →
      ∀ pre x post, showSettings s.cfg = pre ++ x :: post →
        P (((s.fillPulse.afterSetters pre).afterSetter x .never).stall (.pwmSet x)))
    (showErr : i = .showFrame → s.constructed = true → s.txState = .idle →
      ∀ e, P (((((s.fillPulse.afterSetters (showSettings s.cfg)).setTx .transmitting).afterLoad
        (encodeFrame s.cfg s.store) (.err e)).afterLoadError).raise (.transmit e)))
    (showLoad : i = .showFrame → s.constructed = true → s.txState = .idle →
      P ((((s.fillPulse.afterSetters (showSettings s.cfg)).setTx .transmitting).afterLoad
        (encodeFrame s.cfg s.store) .never).stall (.pwmLoad (encodeFrame s.cfg s.store) none true)))
    (showSplit : i = .showFrame → s.constructed = true → s.txState = .idle →
      P (((((s.fillPulse.afterSetters (showSettings s.cfg)).setTx .transmitting).afterLoad
        (encodeFrame s.cfg s.store) .ok).afterSplit .never).stall .pwmWaitAndSplit))
    (showOk : i = .showFrame → s.constructed = true → s.txState = .idle →
      P ((((((s.fillPulse.afterSetters (showSettings s.cfg)).setTx .transmitting).afterLoad
        (encodeFrame s.cfg s.store) .ok).afterSplit .returns).setTx .idle).respond .ok))
    (servoBad : ∀ m (d : Nat), i = .moveServo m d → s.constructed = true → servoTick d = .invalidInput →
      P (s.raise (.mapper .invalidInputData)))
    (servo : ∀ m d n, i = .moveServo m d → s.constructed = true → servoTick d = .tick n →
      ∀ w : ChannelWrite, w = ⟨servoChannel s.cfg m, n⟩ →
        P ((s.afterExp w.call .ok).respond .ok) ∧
        (∀ e, P ((s.afterExp w.call (.err e)).raise (.mapper e))) ∧
        P ((s.afterExp w.call .never).stall (.exp w.call)))
    (motor : ∀ m d v, i = .driveMotor m d v → s.constructed = true →
      ∀ x y : ChannelWrite, x = motorFirst s.cfg m d v → y = motorSecond s.cfg m d v →
        P ((s.afterExp x.call .ok).holdWrite y) ∧
        (∀ e, P ((s.afterExp x.call (.err e)).raise (.mapper e))) ∧
        P ((s.afterExp x.call .never).stall (.exp x.call)))
    (ini : i = .init → s.constructed = false →
      ∀ x y : ExpCall, x = .new s.cfg.expanderAddr → y = .setPrescale s.cfg.prescale50Hz →
        P (((s.afterExp x .ok).afterExp y .ok).construct.respond .ok) ∧
        (∀ e, P ((s.afterExp x (.err e)).raise (.mapper e))) ∧
        P ((s.afterExp x .never).stall (.exp x)) ∧
        (∀ e, P (((s.afterExp x .ok).afterExp y (.err e)).raise (.mapper e))) ∧
        P (((s.afterExp x .ok).afterExp y .never).stall (.exp y))) : P t := by
  cases i with
  | init =>
    simp only [exec, execInit] at h
    split at h
    · contradiction
    · cases h
      obtain ⟨h₁, h₂, h₃, h₄, h₅⟩ := ini rfl (Bool.eq_false_iff.mpr ‹¬s.constructed = true›) _ _ rfl rfl
      exact callExp_two_elim _ _ _ _ (fun _ _ => h₁) (fun e _ => h₂ e) (fun _ => h₃)
        (fun e _ _ => h₄ e) fun _ _ => h₅
  | setPixel p c =>
    obtain ⟨hc, h⟩ := whenConstructed_next h
    cases h
    split
    · exact pix p ‹_› c rfl hc
    · exact bad p c rfl (by omega) hc
  | setAllPixels c =>
    obtain ⟨hc, h⟩ := whenConstructed_next h
    cases h
    exact all c rfl hc
  | showFrame =>
    obtain ⟨hc, h⟩ := whenConstructed_next h
    cases h
    split
    · exact unbound rfl hc ‹_›
    · rename_i hi
      exact show_elim s (showSet rfl hc hi) (showErr rfl hc hi) (showLoad rfl hc hi)
        (showSplit rfl hc hi) (showOk rfl hc hi)
  | getColors =>
    obtain ⟨hc, h⟩ := whenConstructed_next h
    cases h
    exact get rfl hc
  | moveServo m d =>
    obtain ⟨hc, h⟩ := whenConstructed_next h
    split at h
    · contradiction
    · cases h
      exact servoBad m d rfl hc ‹_›
    · cases h
      obtain ⟨h₁, h₂, h₃⟩ := servo m d _ rfl hc ‹_› _ rfl
      exact callExp_elim _ _ _ (fun _ => h₁) (fun e _ => h₂ e) fun _ => h₃
  | driveMotor m d v =>
    obtain ⟨hc, h⟩ := whenConstructed_next h
    cases h
    obtain ⟨h₁, h₂, h₃⟩ := motor m d v rfl hc _ _ rfl rfl
    exact callExp_elim _ _ _ (fun _ => h₁) (fun e _ => h₂ e) fun _ => h₃

/-! ## DRIVE_MOTOR with known answers -/

/-- A first write answered Ok: the command keeps its second write. -/
theorem exec_driveMotor_ok {s : State} (m : Fin 4) (d : Direction) (v : Nat) (hc : s.constructed = true)
    (h : s.oracle.expReply = .ok) :
    exec (.driveMotor m d v) s =
      .next ((s.afterExp (motorFirst s.cfg m d v).call .ok).holdWrite (motorSecond s.cfg m d v)) := by
  rw [exec, execDriveMotor, whenConstructed_true hc, setChannel, callExp_ok h]
  rfl

theorem finishDriveMotor_ok {s : State} (w : ChannelWrite) (h : s.oracle.expReply = .ok) :
    finishDriveMotor w s = (s.takeWrite.afterExp w.call .ok).respond .ok :=
  callExp_ok (c := w.call) (s := s.takeWrite) (k := fun s => s.respond .ok) h

theorem finishDriveMotor_err {s : State} (w : ChannelWrite) {e : ExpErr} (h : s.oracle.expReply = .err e) :
    finishDriveMotor w s = (s.takeWrite.afterExp w.call (.err e)).raise (.mapper e) :=
  callExp_err (c := w.call) (s := s.takeWrite) (k := fun s => s.respond .ok) h

theorem finishDriveMotor_never {s : State} (w : ChannelWrite) (h : s.oracle.expReply = .never) :
    finishDriveMotor w s = (s.takeWrite.afterExp w.call .never).stall (.exp w.call) :=
  callExp_never (c := w.call) (s := s.takeWrite) (k := fun s => s.respond .ok) h

/-- A first write answered Ok at a free port: the whole command goes on to its second write. -/
theorem execWhole_driveMotor_ok {s : State} (m : Fin 4) (d : Direction) (v : Nat) (hc : s.constructed = true)
    (hb : s.blocked = none) (h : s.oracle.expReply = .ok) :
    execWhole (.driveMotor m d v) s =
      .next (finishDriveMotor (motorSecond s.cfg m d v)
        ((s.afterExp (motorFirst s.cfg m d v).call .ok).holdWrite (motorSecond s.cfg m d v))) := by
  simp only [execWhole, exec_driveMotor_ok m d v hc h, State.holdWrite_pending]
  exact step_running hb rfl

/-! ## From acceptance to end -/

/-- A command leaves a second write to be made only if it is DRIVE_MOTOR after a first write answered Ok. -/
theorem exec_pending {i : Instr} {s t : State} (hp : s.pending = none) (h : exec i s = .next t) :
    t.pending = none ∨ ∃ m d v, i = .driveMotor m d v ∧ s.constructed = true ∧
      t = (s.afterExp (motorFirst s.cfg m d v).call .ok).holdWrite (motorSecond s.cfg m d v) := by
  cases i with
  | driveMotor m d v =>
    obtain ⟨hc, h⟩ := whenConstructed_next h
    cases h
    rw [setChannel, callExp]
    split
    · exact .inr ⟨m, d, v, rfl, hc, rfl⟩
    · exact .inl hp
    · exact .inl hp
  | _ =>
    refine .inl (exec_elim (P := fun t => t.pending = none) h ?_ ?_ ?_ ?_ ?_ ?_ ?_ ?_ ?_ ?_ ?_ ?_ ?_ ?_)
    all_goals first
      | (intros; contradiction)
      | (intros; simpa using hp)
      | (intros; simpa [State.afterLoadError_eq] using hp)

/-- A command run to its end ends with its one step, or is a DRIVE_MOTOR that goes on to its second write. -/
theorem execWhole_cases {P : State → Prop} {i : Instr} {s t : State} (hp : s.pending = none)
    (h : execWhole i s = .next t)
    (one : ∀ t, exec i s = .next t → t.pending = none → P t)
    (two : ∀ m d v, i = .driveMotor m d v → s.constructed = true → s.blocked = none →
      P (finishDriveMotor (motorSecond s.cfg m d v)
        ((s.afterExp (motorFirst s.cfg m d v).call .ok).holdWrite (motorSecond s.cfg m d v)))) : P t := by
  unfold execWhole at h
  cases he : exec i s with
  | fault f => simp [he] at h
  | refused r => simp [he] at h
  | next t' =>
    simp only [he] at h
    obtain hk | ⟨m, d, v, rfl, hc, rfl⟩ := exec_pending hp he
    · simp only [hk] at h
      cases h
      exact one _ he hk
    · simp only [State.holdWrite_pending] at h
      have hb := (step_next_cases h).1
      rw [step_running hb rfl] at h
      cases h
      exact two m d v rfl hc (by simpa using hb)

end Sys2Proof.Machine
end

