-- ==== Sys2Proof/Laws/Operands.lean ====
section
/-!
SUPPORT. The operand computations in closed form: the store after a write byte by byte, the frame entry by
entry, and the servo tick over natural numbers.
-/

namespace Sys2Proof.Machine

/-- A byte of the store after a pixel write (40_pixel_store.md R111). -/
theorem writePixel_get (store : Vector Byte 15) (p : Fin 5) (c : Rgb) (k : Nat) (hk : k < 15) :
    (writePixel store p c)[k] =
      if k = 3 * p.val then c.g else if k = 3 * p.val + 1 then c.r
      else if k = 3 * p.val + 2 then c.b else store[k] := by
  simp only [writePixel, Vector.getElem_set]
  split_ifs <;> first | rfl | omega

/-- The five writes of SET_ALL_PIXELS, in order. -/
theorem writeAllPixels_eq (store : Vector Byte 15) (c : Rgb) :
    writeAllPixels store c =
      writePixel (writePixel (writePixel (writePixel (writePixel store 0 c) 1 c) 2 c) 3 c) 4 c := rfl

/-- A byte of the store after SET_ALL_PIXELS depends on its offset in the triplet only. -/
theorem writeAllPixels_get (store : Vector Byte 15) (c : Rgb) (k : Nat) (hk : k < 15) :
    (writeAllPixels store c)[k] = if k % 3 = 0 then c.g else if k % 3 = 1 then c.r else c.b := by
  interval_cases k <;> simp [writeAllPixels_eq, writePixel]

/-- A colour that GET_COLORS reads. -/
@[simp] theorem readColours_get (store : Vector Byte 15) (i : Nat) (hi : i < 4) :
    (readColours store)[i] = ⟨store[3 * i + 1], store[3 * i], store[3 * i + 2]⟩ := by
  simp [readColours, pixelOf]

/-- A code of a byte. -/
@[simp] theorem code8_get (cfg : Config) (b : Byte) (j : Nat) (hj : j < 8) :
    (code8 cfg b)[j] = bitCode cfg (b.getLsbD (7 - j)) := by simp [code8]

/-- The first 96 entries of a frame. -/
theorem encodeFrame_get (cfg : Config) (store : Vector Byte 15) (k : Nat) (hk : k < 96) :
    (encodeFrame cfg store)[k] = bitCode cfg (store[k / 8].getLsbD (7 - k % 8)) := by
  unfold encodeFrame
  rw [Vector.getElem_append_left (by omega), Vector.getElem_flatten]
  simp

@[simp] theorem encodeFrame_96 (cfg : Config) (store : Vector Byte 15) :
    (encodeFrame cfg store)[96] = cfg.term := by
  unfold encodeFrame
  rw [Vector.getElem_append_right (by omega) (by omega)]
  rfl

@[simp] theorem encodeFrame_97 (cfg : Config) (store : Vector Byte 15) :
    (encodeFrame cfg store)[97] = cfg.term := by
  unfold encodeFrame
  rw [Vector.getElem_append_right (by omega) (by omega)]
  rfl

/-- Clamped to [0, 270] the remap always has a value (42_channel_mapper.md R176 step 2). -/
theorem mapRange_servo (d : Int) :
    mapRange (clamp d 0 270) 0 270 0 180 = .value (clamp d 0 270 * 180 / 270) := by
  have h₁ : 0 ≤ clamp d 0 270 := by unfold clamp; omega
  have h₂ : clamp d 0 270 ≤ 270 := by unfold clamp; omega
  rw [mapRange, if_pos (by omega), if_neg (by omega)]
  simp

end Sys2Proof.Machine
end

