-- ==== Sys2Proof/Laws/PerInstr.lean ====
section
/-!
SUPPORT. The families of statements about each command as syntax, one lemma per constructor.
-/

namespace Sys2Proof.Laws.RowOpcode

/-- The word of a well-formed command carries the opcode of its row (30_encoding.md R82). -/
def Statement (i : Instr) : Prop :=
  i.wf = true → (encode i).toNat / 2 ^ 28 = (rowOf i).pattern.toNat / 2 ^ 28

/-- The three channels of a colour fit 24 bits. -/
theorem encodeColour_lt (c : Rgb) : encodeColour c < 2 ^ 24 := by
  have hr := c.r.isLt
  have hg := c.g.isLt
  have hb := c.b.isLt
  unfold encodeColour
  omega

theorem init : Statement .init := fun _ => rfl

theorem setPixel (p : Nat) (c : Rgb) : Statement (.setPixel p c) := by
  intro h
  have hp : p < 8 := by simpa [Instr.wf] using h
  have hc := encodeColour_lt c
  simp only [encode, rowOf, BitVec.toNat_ofNat]
  omega

theorem setAllPixels (c : Rgb) : Statement (.setAllPixels c) := by
  intro _
  have hc := encodeColour_lt c
  simp only [encode, rowOf, BitVec.toNat_ofNat]
  omega

theorem showFrame : Statement .showFrame := fun _ => rfl

theorem getColors : Statement .getColors := fun _ => rfl

theorem moveServo (servo : Fin 8) (deg : Nat) : Statement (.moveServo servo deg) := by
  intro h
  have hd : deg < 65536 := by simpa [Instr.wf] using h
  have hs := servo.isLt
  simp only [encode, rowOf, BitVec.toNat_ofNat]
  omega

theorem driveMotor (motor : Fin 4) (dir : Direction) (speed : Nat) : Statement (.driveMotor motor dir speed) := by
  intro h
  have hv : speed < 256 := by simpa [Instr.wf] using h
  have hm := motor.isLt
  have hd : directionBit dir < 2 := by cases dir <;> decide
  simp only [encode, rowOf, BitVec.toNat_ofNat]
  omega

end Sys2Proof.Laws.RowOpcode
end

