-- ==== Sys2Proof/Laws/Responses.lean ====
section
/-!
SUPPORT. The payload of GET_COLORS: each colour is read back from its bits (30_encoding.md R90).
-/

namespace Sys2Proof.Machine

/-- The three channels of a packed colour. -/
theorem packColour_slices (c : Rgb) :
    (packColour c).extractLsb' 16 8 = c.r ∧ (packColour c).extractLsb' 8 8 = c.g ∧
    (packColour c).extractLsb' 0 8 = c.b := by
  have e : ∀ x : Byte, x.extractLsb' 0 8 = x := fun x => by simp
  refine ⟨?_, ?_, ?_⟩
  · exact (BitVec.extractLsb'_append_eq_of_le (xhi := c.r ++ c.g) (xlo := c.b) (by omega)).trans
      ((BitVec.extractLsb'_append_eq_of_le (by omega)).trans (e _))
  · exact (BitVec.extractLsb'_append_eq_of_le (xhi := c.r ++ c.g) (xlo := c.b) (by omega)).trans
      ((BitVec.extractLsb'_append_eq_of_add_le (by omega)).trans (e _))
  · exact (BitVec.extractLsb'_append_eq_of_add_le (xhi := c.r ++ c.g) (xlo := c.b) (by omega)).trans (e _)

/-- A byte slice of four packed colours lies in one of them. -/
theorem four_slices (a b c d : BitVec 24) (k : Nat) (hk : k + 8 ≤ 24) :
    (a ++ b ++ c ++ d).extractLsb' k 8 = d.extractLsb' k 8 ∧
    (a ++ b ++ c ++ d).extractLsb' (24 + k) 8 = c.extractLsb' k 8 ∧
    (a ++ b ++ c ++ d).extractLsb' (48 + k) 8 = b.extractLsb' k 8 ∧
    (a ++ b ++ c ++ d).extractLsb' (72 + k) 8 = a.extractLsb' k 8 := by
  have e2 : 48 + k - 24 - 24 = k := by omega
  have e3 : 72 + k - 24 - 24 - 24 = k := by omega
  refine ⟨?_, ?_, ?_, ?_⟩
  · exact BitVec.extractLsb'_append_eq_of_add_le (by omega)
  · rw [BitVec.extractLsb'_append_eq_of_le (by omega), BitVec.extractLsb'_append_eq_of_add_le (by omega),
      Nat.add_sub_cancel_left]
  · rw [BitVec.extractLsb'_append_eq_of_le (by omega), BitVec.extractLsb'_append_eq_of_le (by omega),
      BitVec.extractLsb'_append_eq_of_add_le (by omega), e2]
  · rw [BitVec.extractLsb'_append_eq_of_le (by omega), BitVec.extractLsb'_append_eq_of_le (by omega),
      BitVec.extractLsb'_append_eq_of_le (by omega), e3]

/-- Reading a colour back from the payload gives the colour packed there. -/
theorem payloadColour_packColours (cs : Vector Rgb 4) (i : Nat) (hi : i < 4) :
    payloadColour (packColours cs) i = cs[i] := by
  have h16 := four_slices (packColour cs[3]) (packColour cs[2]) (packColour cs[1]) (packColour cs[0]) 16 (by omega)
  have h8 := four_slices (packColour cs[3]) (packColour cs[2]) (packColour cs[1]) (packColour cs[0]) 8 (by omega)
  have h0 := four_slices (packColour cs[3]) (packColour cs[2]) (packColour cs[1]) (packColour cs[0]) 0 (by omega)
  simp only [packColour_slices] at h16 h8 h0
  obtain rfl | rfl | rfl | rfl : i = 0 ∨ i = 1 ∨ i = 2 ∨ i = 3 := by omega
  · exact congr (congr (congrArg Rgb.mk h16.1) h8.1) h0.1
  · exact congr (congr (congrArg Rgb.mk h16.2.1) h8.2.1) h0.2.1
  · exact congr (congr (congrArg Rgb.mk h16.2.2.1) h8.2.2.1) h0.2.2.1
  · exact congr (congr (congrArg Rgb.mk h16.2.2.2) h8.2.2.2) h0.2.2.2

end Sys2Proof.Machine
end

