-- ==== Sys2Proof/Tests/Slice0.lean ====
section
/-!
SUPPORT. Small tests and witnesses.  Expected values are the vectors of 95_test_vectors.md (derived there
from the rules) or hand calculation from a rule, never the model's own answer.  A theorem `witness_<Name>`
shows a concrete state and operands that meet the hypotheses of `Obligations.<Name>` together.
-/

namespace Sys2Proof.Tests

open Sys2Proof Sys2Proof.Machine

/-! ## Helpers -/

/-- The reference column of 00_scope.md R9: general knowledge, not in the source
(93_implementation_defined.md part 2).  It stands in tests only. -/
def reference : Config where
  t0h := 0x8006
  t1h := 0x800D
  term := 0x8000
  highT0H := 6
  highT1H := 13
  pwmPrescaler := 1
  tickNsNum := 125
  tickNsDen := 2
  storeInit := Vector.replicate 15 0
  reclaimOnError := false
  expanderAddr := 0x40
  prescale50Hz := 121
  nChannels := 16
  servoCh := #v[0, 1, 2, 3, 4, 5, 6, 7]
  motorPair := #v[(8, 9), (10, 11), (12, 13), (14, 15)]
  reverseWriteOrder := .dutyFirst

/-- A constructed, idle block with an all-zero store whose collaborators answer well. -/
def ready : State where
  cfg := reference
  store := Vector.replicate 15 0
  pulse := Vector.replicate 98 0
  txState := .idle
  constructed := true
  history := []
  responses := []
  blocked := none
  pending := none
  pwm := .unknown
  expander := .unknown
  inbox := []
  oracle := ⟨List.replicate 5 .returns, [.ok], [.returns], [.ok, .ok, .ok, .ok], 1⟩

/-- The same block before construction. -/
def unbuilt : State := { ready with constructed := false }

/-- The same block after a load error that was not reclaimed. -/
def lent : State := { ready with txState := .transmitting }

/-- `ready` with good answers for two SHOWs. -/
def twice : State :=
  { ready with oracle := ⟨List.replicate 10 .returns, [.ok, .ok], [.returns, .returns], [.ok], 1⟩ }

/-- `s` with expander answers `xs`. -/
def answering (xs : List (Reply ExpErr)) (s : State) : State :=
  { s with oracle := { s.oracle with exps := xs } }

/-- `s` with setter behaviours `xs`. -/
def setting (xs : List Return) (s : State) : State :=
  { s with oracle := { s.oracle with setters := xs } }

/-- `s` with the answer `r` to the next load. -/
def loading (r : Reply PerErr) (s : State) : State :=
  { s with oracle := { s.oracle with loads := [r] } }

/-- `s` with the behaviour `r` of the next wait. -/
def waiting (r : Return) (s : State) : State :=
  { s with oracle := { s.oracle with splits := [r] } }

/-- `s` with the word `w` in front of the port. -/
def offered (w : Word) (s : State) : State := { s with inbox := [.command w] }

/-- A store from its bytes, the rest zero. -/
def storeOf (bs : List Byte) : Vector Byte 15 := Vector.ofFn fun k => bs.getD k.val 0

/-- `ready` with motor M1 running forward at full duty: channel 9 on, channel 8 off. -/
def forwards : State := { ready with expander := ⟨none, none, [(8, ⟨0, 0⟩), (9, ⟨0, 4080⟩)]⟩ }

/-- M1 between the two writes of a reverse command; the host has a reset to come. -/
def running : State :=
  { ready with
    pending := some ⟨9, 0⟩
    history := [⟨.exp (.setChannelOnOff 8 0 3200), .ok⟩]
    expander := ⟨none, none, [(8, ⟨0, 3200⟩), (9, ⟨0, 4080⟩)]⟩
    inbox := [.reset] }

/-- What `f` reads in the next state. -/
def seen {α : Type} (f : State → α) : Result → Option α
  | .next t => some (f t)
  | _ => none

/-- The channel writes of a history: channel, on-tick, off-tick. -/
def writes (t : State) : List (Nat × Nat × Nat) :=
  t.history.filterMap fun e =>
    match e.call with
    | .exp (.setChannelOnOff ch on off) => some (ch, on, off)
    | _ => none

/-- The 98 codes of a frame as digits: 0, 1, and 2 for `TERM`. -/
def digits (buf : Vector Code 98) : List Nat :=
  buf.toList.map fun c => if c = reference.t1h then 1 else if c = reference.t0h then 0 else 2

/-! ## WellFormed refuses each ill-formed field (30_encoding.md R84) -/

theorem test_wf_position : (Instr.setPixel 8 .black).wf = false ∧ (Instr.setPixel 7 .black).wf = true := by decide
theorem test_wf_degrees : (Instr.moveServo 0 65536).wf = false ∧ (Instr.moveServo 0 65535).wf = true := by decide
theorem test_wf_speed :
    (Instr.driveMotor 0 .forward 256).wf = false ∧ (Instr.driveMotor 0 .forward 255).wf = true := by decide

/-! ## Decoding, words written out from the formats N, P, C, S, M (30_encoding.md R81, R82; 95_test_vectors.md 2.1) -/

theorem test_decode_init : decode 0b0001_0000000000000000000000000000#32 = .ok .init := by decide
theorem test_decode_setPixel :
    decode 0b0010_0_000_00010010_00110100_01010110#32 = .ok (.setPixel 0 ⟨0x12, 0x34, 0x56⟩) := by decide
theorem test_decode_setPixel_7 :
    decode 0b0010_0_111_11111111_11111111_11111111#32 = .ok (.setPixel 7 ⟨255, 255, 255⟩) := by decide
theorem test_decode_setAllPixels :
    decode 0b0011_0000_00001010_00010100_00011110#32 = .ok (.setAllPixels ⟨10, 20, 30⟩) := by decide
theorem test_decode_show : decode 0b0100_0000000000000000000000000000#32 = .ok .showFrame := by decide
theorem test_decode_getColors : decode 0b0101_0000000000000000000000000000#32 = .ok .getColors := by decide
theorem test_decode_moveServo :
    decode 0b0110_0_111_00000000_0000000100101100#32 = .ok (.moveServo 7 300) := by decide
theorem test_decode_moveServo_wide :
    decode 0b0110_0_011_00000000_1111111111111111#32 = .ok (.moveServo 3 65535) := by decide
theorem test_decode_driveMotor :
    decode 0b0111_00_10_000000000000000_1_10000000#32 = .ok (.driveMotor 2 .reverse 128) := by decide
theorem test_decode_driveMotor_forward :
    decode 0b0111_00_00_000000000000000_0_11111111#32 = .ok (.driveMotor 0 .forward 255) := by decide

/-- The invalid words of 95_test_vectors.md 2.1. -/
theorem test_decode_invalid :
    [0x00000000#32, 0xFFFFFFFF#32, 0x80000000#32, 0x10000001#32, 0x40000100#32, 0x28000000#32,
      0x31000000#32, 0x60010000#32, 0x68000000#32, 0x74000000#32, 0x70000200#32].all
      (fun w => (decode w).toOption.isNone) = true := by decide

/-- Their nearest accepted neighbours. -/
theorem test_decode_nearest :
    [0x10000000#32, 0x40000000#32, 0x20000000#32, 0x30000000#32, 0x60000000#32, 0x70000000#32,
      0x70000100#32].all (fun w => (decode w).toOption.isSome) = true := by decide

/-- The assembler's words (30_encoding.md R96; 95_test_vectors.md 2.5, 2.6). -/
theorem test_encode :
    encode (.moveServo 3 271) = 0x6300010F#32 ∧ encode (.driveMotor 0 .reverse 200) = 0x700001C8#32 ∧
    encode (.clearPixel 2) = 0x22000000#32 := by decide

theorem test_decodeTableWord :
    decodeTableWord 32 0x6700012C = some (.moveServo 7 300) ∧ decodeTableWord 32 0 = none := by decide

/-- The table's match values select their own row only (30_encoding.md R82). -/
theorem test_rows_disjoint :
    opcodeRows.Pairwise fun a b => a.pattern &&& (a.mask &&& b.mask) ≠ b.pattern &&& (a.mask &&& b.mask) := by
  decide

/-! ## Pixel store (95_test_vectors.md 2.2) -/

theorem test_setPixel_order :
    seen (fun t => t.store.toList.take 4) (exec (.setPixel 0 ⟨0x12, 0x34, 0x56⟩) ready) =
      some [0x34, 0x12, 0x56, 0x00] := by decide
theorem test_setPixel_position :
    seen (fun t => (t.store.toList, t.responses.map (·.status))) (exec (.setPixel 5 ⟨1, 1, 1⟩) ready) =
      some (List.replicate 15 0, [4]) := by decide
theorem test_setAllPixels :
    seen (fun t => t.store.toList) (exec (.setAllPixels ⟨10, 20, 30⟩) ready) =
      some [0x14, 0x0A, 0x1E, 0x14, 0x0A, 0x1E, 0x14, 0x0A, 0x1E, 0x14, 0x0A, 0x1E, 0x14, 0x0A, 0x1E] := by
  decide
theorem test_getColors :
    seen (fun t => t.responses) (exec .getColors { ready with store := storeOf [0x34, 0x12, 0x56] }) =
      some [⟨0, .colours 0x000000000000000000123456⟩] := by decide
/-- 95_test_vectors.md P3, row 7. -/
theorem test_getColors_order :
    seen (fun t => t.responses) (exec .getColors { ready with
      store := storeOf [0x14, 0x0A, 0x1E, 0x14, 0x0A, 0x1E, 0, 0, 0, 0x14, 0x0A, 0x1E, 9, 9, 9] }) =
      some [⟨0, .colours 0x0A141E0000000A141E0A141E⟩] := by decide

/-! ## SHOW (95_test_vectors.md 2.3) -/

theorem test_frame_bits :
    (digits (encodeFrame reference (storeOf [0x34, 0x12, 0x56]))).take 24 =
      [0, 0, 1, 1, 0, 1, 0, 0, 0, 0, 0, 1, 0, 0, 1, 0, 0, 1, 0, 1, 0, 1, 1, 0] := by decide +kernel
/-- Bytes 12 to 14 never change the frame, and its end is `T T`. -/
theorem test_frame_end :
    digits (encodeFrame reference (storeOf (List.replicate 12 0 ++ [0xFF, 0xFF, 0xFF]))) =
      List.replicate 96 0 ++ [2, 2] := by decide +kernel
theorem test_show_ok :
    seen (fun t => (t.responses, t.txState, t.history.length, t.pwm.maxDuty, wireTicks t.pwm.wire))
      (exec .showFrame ready) = some ([⟨0, .empty⟩], .idle, 7, some 20, 1960) := by decide +kernel
theorem test_show_error :
    seen (fun t => (t.responses, t.txState, t.history.length)) (exec .showFrame (loading (.err ⟨7⟩) ready)) =
      some ([⟨1, .perErr ⟨7⟩⟩], .transmitting, 6) := by decide

/-! ## map_range, servo tick, motor duty (95_test_vectors.md 2.4 to 2.6) -/

theorem test_mapRange_values :
    mapRange 134 0 270 0 180 = .value 89 ∧ mapRange 270 0 270 0 180 = .value 180 ∧
    mapRange 5 0 10 100 200 = .value 150 ∧ mapRange 3 0 10 0 5 = .value 1 ∧
    mapRange 7 5 10 0 0 = .value 0 := by decide
theorem test_mapRange_outside :
    mapRange 300 0 270 0 180 = .noResult ∧ mapRange 4 5 10 0 9 = .noResult ∧
    mapRange 5 5 5 0 9 = .refused ∧ mapRange 5 0 10 9 0 = .refused := by decide
theorem test_moveServo :
    seen writes (exec (.moveServo 2 90) ready) = some [(2, 0, 245)] := by decide
theorem test_moveServo_saturates :
    seen writes (exec (.moveServo 3 65535) ready) = some [(3, 0, 491)] := by decide
theorem test_driveMotor_pairs :
    seen writes (execWhole (.driveMotor 0 .forward 255) ready) = some [(9, 0, 4080), (8, 0, 0)] ∧
    seen writes (execWhole (.driveMotor 2 .reverse 128) ready) = some [(13, 0, 2048), (12, 0, 0)] := by decide
/-- 42_channel_mapper.md R187: M1 runs forward on channel 9; reversed, it passes through both channels on. -/
theorem test_driveMotor_transient :
    seen (fun t => (t.expander.chan.read 9, t.expander.chan.read 8, t.responses, t.pending))
      (exec (.driveMotor 0 .reverse 200) forwards) = some (some ⟨0, 4080⟩, some ⟨0, 3200⟩, [], some ⟨9, 0⟩) := by
  decide
/-- The last row of the failure vectors for `DRIVE_MOTOR M3, FWD, 255`. -/
theorem test_driveMotor_stall :
    seen (fun t => (t.responses, t.expander.chan.read 12, t.expander.chan.read 13))
      (execWhole (.driveMotor 2 .forward 255) (answering [.ok, .never] ready)) =
      some ([], some ⟨0, 4080⟩, none) := by decide

/-! ## INIT and the port (95_test_vectors.md 2.7) -/

theorem test_init :
    seen (fun t => (t.constructed, t.history)) (exec .init unbuilt) =
      some (true, [⟨.exp (.new 0x40), .ok⟩, ⟨.exp (.setPrescale 121), .ok⟩]) := by decide
theorem test_init_fails :
    seen (fun t => (t.constructed, t.history.length, t.responses))
      (exec .init (answering [.err (.native 3)] unbuilt)) =
      some (false, 1, [⟨2, .expErr (.native 3)⟩]) := by decide

/-- The very next step runs the word that `withFetchWord` placed. -/
theorem test_withFetchWord :
    step (ready.withFetchWord 32 0x24090909) = exec (.setPixel 4 ⟨9, 9, 9⟩) ready := rfl

/-- From reset INIT runs (70_reset_and_hazards.md R264); any other command is refused (43_facade.md R203). -/
theorem test_first_command :
    (∃ t, step (State.reset.withFetchWord 32 0x10000000) = .next t) ∧
    step (State.reset.withFetchWord 32 0x40000000) = .refused .notConstructed := ⟨⟨_, rfl⟩, rfl⟩

/-! ## Witnesses: encoding -/

theorem witness_DecodeOfEncode :
    ∀ i ∈ [Instr.init, .setPixel 7 .black, .setAllPixels .black, .showFrame, .getColors,
      .moveServo 7 65535, .driveMotor 3 .reverse 255], i.wf = true := by decide
theorem witness_EncodeOfDecode : decode 0x6300FFFF#32 = .ok (.moveServo 3 65535) := by decide
/-- One word for each clause of the invalid words, the first behind a free port. -/
theorem witness_InvalidWordsAreRefused :
    (offered 0x80000000#32 ready).blocked = none ∧ (offered 0x80000000#32 ready).pending = none ∧
    (offered 0x80000000#32 ready).inbox = .command 0x80000000#32 :: [] ∧
    decode 0x80000000#32 = .error (.undefinedOpcode 8) ∧ decode 0x0FFFFFFF#32 = .error (.undefinedOpcode 0) ∧
    decode 0x10000001#32 = .error (.reservedBitSet 1) ∧ decode 0x48000000#32 = .error (.reservedBitSet 4) ∧
    decode 0x50000001#32 = .error (.reservedBitSet 5) ∧ decode 0x28000000#32 = .error (.reservedBitSet 2) ∧
    decode 0x31000000#32 = .error (.reservedBitSet 3) ∧ decode 0x60010000#32 = .error (.reservedBitSet 6) ∧
    decode 0x68000000#32 = .error (.reservedBitSet 6) ∧ decode 0x70000200#32 = .error (.reservedBitSet 7) ∧
    decode 0x74000000#32 = .error (.reservedBitSet 7) := by decide
theorem witness_DecodeSelectsTheTableRow :
    rowOf (.driveMotor 3 .reverse 255) ∈ opcodeRows ∧
    0x730001FF#32 &&& (rowOf (.driveMotor 3 .reverse 255)).mask = (rowOf (.driveMotor 3 .reverse 255)).pattern := by
  decide
theorem witness_ClearPixelIsSetPixelBlack : (0 : Nat) < 8 ∧ 7 < 8 := by decide

/-! ## Witnesses: the port -/

theorem witness_StepRunsDecodedCommand :
    (offered 0x27FFFFFF#32 ready).blocked = none ∧ (offered 0x27FFFFFF#32 ready).pending = none ∧
    (offered 0x27FFFFFF#32 ready).inbox = .command 0x27FFFFFF#32 :: [] ∧
    decode 0x27FFFFFF#32 = .ok (.setPixel 7 ⟨255, 255, 255⟩) := by decide
/-- A hung port with a command, with nothing, and with a reset in front of it. -/
theorem witness_StalledPortAcceptsNothing :
    (({ ready with blocked := some .pwmWaitAndSplit } : State).blocked = some .pwmWaitAndSplit) ∧
    (∀ rest, ({ ready with blocked := some .pwmWaitAndSplit } : State).inbox ≠ .reset :: rest) ∧
    (∀ rest, (offered 0x40000000#32 ready).inbox ≠ .reset :: rest) ∧
    ({ ready with blocked := some .pwmWaitAndSplit, inbox := [.reset] } : State).inbox = .reset :: [] := by
  simp [ready, offered]
theorem witness_IdlePortWaits : ready.blocked = none ∧ ready.pending = none ∧ ready.inbox = [] := by decide
theorem witness_ResetRestoresTheBlock :
    ({ lent with inbox := [.reset] } : State).blocked = none ∧
    ({ lent with inbox := [.reset] } : State).pending = none ∧
    ({ lent with inbox := [.reset] } : State).inbox = .reset :: [] ∧
    (∃ t, exec (.setPixel 4 .black) lent = .next t) ∧ lent.constructed = true ∧
    lent.txState = .transmitting ∧ (∃ t, step (offered 0x40000000#32 lent) = .next t) ∧
    (∀ rest, (offered 0x40000000#32 lent).inbox ≠ .reset :: rest) :=
  ⟨rfl, rfl, rfl, ⟨_, rfl⟩, rfl, rfl, ⟨_, rfl⟩, by simp [offered]⟩
theorem witness_WrongConstructionStateIsRefused :
    unbuilt.constructed = false ∧ Instr.showFrame ≠ .init ∧ ready.constructed = true := by decide
theorem witness_AcceptedCommandsAnswerNext :
    (Instr.init = .init ↔ unbuilt.constructed = false) ∧
    (Instr.showFrame = .init ↔ ready.constructed = false) := by decide
/-- Each of the six forms of a response, after one step and after two, and a stall. -/
theorem witness_OneResponseUnlessStalled :
    ready.blocked = none ∧ ready.pending = none ∧ lent.blocked = none ∧ lent.pending = none ∧
    (∃ t, execWhole (.driveMotor 0 .forward 1) ready = .next t ∧ t.responses = [⟨0, .empty⟩]) ∧
    (∃ t, execWhole .getColors ready = .next t ∧ t.responses = [⟨0, .colours 0⟩]) ∧
    (∃ t, execWhole .showFrame (loading (.err ⟨7⟩) ready) = .next t ∧ t.responses = [⟨1, .perErr ⟨7⟩⟩]) ∧
    (∃ t, execWhole (.driveMotor 0 .forward 1) (answering [.ok, .err (.native 3)] ready) = .next t ∧
      t.responses = [⟨2, .expErr (.native 3)⟩]) ∧
    (∃ t, execWhole .showFrame lent = .next t ∧ t.responses = [⟨3, .empty⟩]) ∧
    (∃ t, execWhole (.setPixel 5 .black) ready = .next t ∧ t.responses = [⟨4, .empty⟩]) ∧
    (∃ t, execWhole .showFrame (waiting .never ready) = .next t ∧ t.blocked = some .pwmWaitAndSplit) :=
  ⟨rfl, rfl, rfl, rfl, ⟨_, rfl, rfl⟩, ⟨_, rfl, rfl⟩, ⟨_, rfl, rfl⟩, ⟨_, rfl, rfl⟩, ⟨_, rfl, rfl⟩,
    ⟨_, rfl, rfl⟩, ⟨_, rfl, rfl⟩⟩
theorem witness_ErrorsAreOfTheirKindAndSurfaced :
    ready.pending = none ∧
    (∃ t, execWhole (.setPixel 7 .black) ready = .next t ∧ t.responses = ready.responses ++ [⟨4, .empty⟩]) ∧
    (∃ t, execWhole .showFrame (loading (.err ⟨7⟩) ready) = .next t ∧
      ∃ h c, t.history = h ++ [⟨c, .perErr ⟨7⟩⟩]) ∧
    (∃ t, execWhole (.driveMotor 0 .forward 1) (answering [.ok, .err (.native 3)] ready) = .next t ∧
      ∃ h c, t.history = h ++ [⟨c, .expErr (.native 3)⟩]) :=
  ⟨rfl, ⟨_, rfl, rfl⟩, ⟨_, rfl, (loading (.err ⟨7⟩) ready).history ++ (showSettings reference).map
    (fun x => ⟨.pwmSet x, .returned⟩), _, rfl⟩, ⟨_, rfl, [_], _, rfl⟩⟩
theorem witness_ConfigurationIsNeverWritten :
    (∃ t, step (offered 0x40000000#32 ready) = .next t) ∧ (∃ t, step (offered 0x10000000#32 unbuilt) = .next t) ∧
    (∃ t, step { ready with inbox := [.reset] } = .next t) := ⟨⟨_, rfl⟩, ⟨_, rfl⟩, ⟨_, rfl⟩⟩
/-- Every command answers a next state somewhere; byte 2 is not of pixel 1. -/
theorem witness_CommandsWriteOnlyTheirState :
    (∃ t, exec .init unbuilt = .next t) ∧ (∃ t, exec (.setPixel 1 .black) ready = .next t) ∧
    (∃ t, exec (.setAllPixels .black) ready = .next t) ∧ (∃ t, exec .showFrame ready = .next t) ∧
    (∃ t, exec .getColors ready = .next t) ∧ (∃ t, exec (.moveServo 7 270) ready = .next t) ∧
    (∃ t, exec (.driveMotor 3 .reverse 255) ready = .next t) ∧ (2 : Fin 15).val / 3 ≠ 1 ∧
    running.pending ≠ none ∧ (∃ t, step running = .next t) :=
  ⟨⟨_, rfl⟩, ⟨_, rfl⟩, ⟨_, rfl⟩, ⟨_, rfl⟩, ⟨_, rfl⟩, ⟨_, rfl⟩, ⟨_, rfl⟩, by decide, by decide, ⟨_, rfl⟩⟩
/-- A command all of whose calls are answered well, and one that is cut off. -/
theorem witness_EventsFollowTheRuleOrder :
    ready.pending = none ∧
    (∃ t, execWhole (.driveMotor 0 .forward 255) ready = .next t ∧
      t.history.map (fun e => e.answer.good) = [true, true]) ∧
    (∃ t, execWhole (.driveMotor 0 .forward 255) (answering [.err .invalidInputData] ready) = .next t ∧
      t.history.map (fun e => e.answer.good) = [false]) := ⟨rfl, ⟨_, rfl, rfl⟩, ⟨_, rfl, rfl⟩⟩

/-! ## Witnesses: pixel store -/

theorem witness_SetPixelStoresGreenRedBlue :
    ready.constructed = true ∧ (0 : Nat) ≤ 4 ∧ 4 ≤ 4 ∧ ready.store = Vector.replicate 15 0 := by decide
theorem witness_SetPixelRejectsBadPosition : ready.constructed = true ∧ (5 : Nat) ≤ 5 ∧ 5 ≤ 7 := by decide
theorem witness_FifthSlotIsWriteOnly : ready.constructed = true := rfl
theorem witness_SetAllPixelsWritesFivePositions : ready.constructed = true := rfl
theorem witness_GetColorsAnswersTheStagedColours :
    ({ ready with store := storeOf [0x34, 0x12, 0x56] } : State).constructed = true ∧
    ({ ready with store := storeOf [0x34, 0x12, 0x56] } : State).store.toList =
      [0x34, 0x12, 0x56, 0, 0, 0, 0, 0, 0, 0, 0, 0, 0, 0, 0] := by decide
/-- Positions 3 (read back) and 4 (not), and an index other than the position. -/
theorem witness_SetThenGetReturnsTheColour :
    ready.constructed = true ∧ (3 : Nat) ≤ 3 ∧ (4 : Nat) ≤ 4 ∧ (3 : Fin 4).val ≠ 4 ∧ (2 : Fin 4).val ≠ 3 := by
  decide
/-- Two states that differ in a spare byte and in the Pulse Buffer. -/
theorem witness_SpareBytesAndPulseAreUnobservable :
    SameButSpare ready { ready with store := ready.store.set 14 9, pulse := Vector.replicate 98 1 } ∧
    ready ≠ { ready with store := ready.store.set 14 9, pulse := Vector.replicate 98 1 } :=
  ⟨⟨by decide, rfl⟩, by decide⟩
/-- Two states that differ in the history and in both shadows. -/
theorem witness_CollaboratorShadowsAreNeverRead :
    SameBlock ready { ready with
      history := [⟨.pwmWaitAndSplit, .returned⟩]
      pwm := { Pwm.unknown with maxDuty := some 20 }
      expander := ⟨some 1, none, [(3, ⟨0, 7⟩)]⟩ } := rfl
theorem witness_OnlyShowReadsTxState : Instr.getColors ≠ .showFrame ∧ Instr.getColors ≠ .init := by decide
theorem witness_PixelAndMapperCommandsCommute :
    ready.pending = none ∧
    ∃ t u t' u', execWhole (.setPixel 4 .black) ready = .next t ∧
      execWhole (.driveMotor 0 .reverse 1) t = .next u ∧
      execWhole (.driveMotor 0 .reverse 1) ready = .next t' ∧
      execWhole (.setPixel 4 .black) t' = .next u' :=
  ⟨rfl, _, _, _, _, rfl, rfl, rfl, rfl⟩

/-! ## Witnesses: SHOW -/

/-- Codes that differ, and codes that do not (which 00_scope.md R10 rules out). -/
theorem witness_FrameTellsTheStoresApart :
    reference.t0h ≠ reference.t1h ∧
    ({ reference with t1h := reference.t0h } : Config).t0h = ({ reference with t1h := reference.t0h } : Config).t1h := by
  decide
theorem witness_TerminatorsStandApart : reference.Valid := by decide
theorem witness_FrameWaveform : reference.Valid ∧ ({ reference with highT0H := 0, highT1H := 20 } : Config).Valid := by
  decide
theorem witness_ShowSendsTheFrame :
    ready.constructed = true ∧ ready.txState = .idle ∧
    (∀ k < 5, (Oracle.popSetter^[k] ready.oracle).setterReply = .returns) ∧
    (Oracle.popSetter^[5] ready.oracle).loadReply = .ok ∧
    (Oracle.popSetter^[5] ready.oracle).popLoad.splitReply = .returns := by decide
/-- The reference configuration does not reclaim; one that does. -/
theorem witness_ShowReportsALoadError :
    (loading (.err ⟨7⟩) ready).constructed = true ∧ (loading (.err ⟨7⟩) ready).txState = .idle ∧
    (∀ k < 5, (Oracle.popSetter^[k] (loading (.err ⟨7⟩) ready).oracle).setterReply = .returns) ∧
    (Oracle.popSetter^[5] (loading (.err ⟨7⟩) ready).oracle).loadReply = .err ⟨7⟩ ∧
    (loading (.err ⟨7⟩) ready).cfg.reclaimOnError = false ∧
    ({ reference with reclaimOnError := true } : Config).reclaimOnError = true := by decide
theorem witness_ShowInTransmittingIsUnbound : lent.constructed = true ∧ lent.txState = .transmitting := by decide
/-- Both ways to hang. -/
theorem witness_ShowThatStallsHangsTheBlock :
    ready.constructed = true ∧ ready.txState = .idle ∧
    (∀ k < 5, (Oracle.popSetter^[k] (loading .never ready).oracle).setterReply = .returns) ∧
    (∀ k < 5, (Oracle.popSetter^[k] (waiting .never ready).oracle).setterReply = .returns) ∧
    (Oracle.popSetter^[5] (loading .never ready).oracle).loadReply = .never ∧
    (Oracle.popSetter^[5] (waiting .never ready).oracle).loadReply = .ok ∧
    (Oracle.popSetter^[5] (waiting .never ready).oracle).popLoad.splitReply = .never := by decide
/-- Two commands of a block that has lost its transmitter: SHOW, and SET_PIXEL 4. -/
theorem witness_LostTransmitterStaysLost :
    ({ lent with inbox := [0x40000000#32, 0x24090909#32].map .command } : State).constructed = true ∧
    ({ lent with inbox := [0x40000000#32, 0x24090909#32].map .command } : State).txState = .transmitting ∧
    ∃ t, Host.Core.run Sys2Proof.core 2
      { lent with inbox := [0x40000000#32, 0x24090909#32].map .command } = .next t := ⟨rfl, rfl, _, rfl⟩
/-- The fifth setter hangs, and the first. -/
theorem witness_SetterThatNeverReturnsHangsShow :
    ready.constructed = true ∧ ready.txState = .idle ∧ (4 : Nat) < 5 ∧
    (∀ k < 4, (Oracle.popSetter^[k] (setting (List.replicate 4 .returns ++ [.never]) ready).oracle).setterReply =
      .returns) ∧
    (Oracle.popSetter^[4] (setting (List.replicate 4 .returns ++ [.never]) ready).oracle).setterReply = .never ∧
    (Oracle.popSetter^[0] (setting [.never] ready).oracle).setterReply = .never := by decide
/-- GET_COLORS and MOVE_SERVO between two SHOWs that both answer Ok. -/
theorem witness_ShowAgainSendsTheSameFrame :
    twice.txState = .idle ∧
    ∃ t u v, exec .showFrame twice = .next t ∧ t.responses = twice.responses ++ [⟨0, .empty⟩] ∧
      Host.Core.run Sys2Proof.core 2 { t with inbox := [0x50000000#32, 0x6700012C#32].map .command } = .next u ∧
      decode 0x50000000#32 = .ok .getColors ∧ decode 0x6700012C#32 = .ok (.moveServo 7 300) ∧
      u.txState = .idle ∧ exec .showFrame u = .next v ∧ v.responses = u.responses ++ [⟨0, .empty⟩] :=
  ⟨rfl, _, _, _, rfl, rfl, rfl, by decide, by decide, rfl, rfl, rfl⟩

/-! ## Witnesses: channel mapper -/

/-- Both ends of the domain, a value outside it on each side, and bounds outside the domain. -/
theorem witness_MapRangeOnItsDomain :
    (0 : Int) ≤ 0 ∧ (0 : Int) < 270 ∧ (0 : Int) ≤ 180 ∧ (0 : Int) ≤ 270 ∧ (-1 : Int) < 0 ∧ (271 : Int) > 270 ∧
    mapRange 0 0 270 0 180 = .value 0 ∧ mapRange 270 0 270 0 180 = .value 180 ∧ (0 : Int) ≤ 270 ∧
    ¬ ((0 : Int) ≤ 5 ∧ (5 : Int) < 5 ∧ (0 : Int) ≤ 0 ∧ (0 : Int) ≤ 9) := by decide
theorem witness_ServoTickValues :
    (180 : Nat) ≤ 180 ∧ (179 : Nat) < 180 ∧ (270 : Nat) ≤ 270 ∧ servoTick (269 : Nat) = .tick 489 ∧
    servoTick (270 : Nat) = .tick 491 := by decide
theorem witness_MoveServoWritesItsTick : ready.constructed = true ∧ ready.oracle.expReply = .ok := by decide
theorem witness_MoveServoReportsAWriteError :
    (answering [.err (.native 3)] ready).constructed = true ∧
    (answering [.err (.native 3)] ready).oracle.expReply = .err (.native 3) := by decide
theorem witness_DriveMotorWritesBothChannels :
    ready.constructed = true ∧ ready.blocked = none ∧ ready.oracle.expReply = .ok ∧ ready.oracle.popExp.expReply = .ok ∧
    motorFwd ready.cfg 0 ≠ motorRev ready.cfg 0 ∧ (0 : Nat) ≠ motorFwd ready.cfg 0 ∧
    (0 : Nat) ≠ motorRev ready.cfg 0 := by decide
/-- The first write fails; the second one does. -/
theorem witness_DriveMotorPartialFailure :
    (answering [.err (.native 3)] ready).constructed = true ∧
    (answering [.err (.native 3)] ready).oracle.expReply = .err (.native 3) ∧
    (answering [.ok, .err (.native 3)] ready).blocked = none ∧
    (answering [.ok, .err (.native 3)] ready).oracle.expReply = .ok ∧
    (answering [.ok, .err (.native 3)] ready).oracle.popExp.expReply = .err (.native 3) ∧
    motorFwd ready.cfg 2 ≠ motorRev ready.cfg 2 := by decide
/-- Slots 2 and 3, on the two sides of the rule. -/
theorem witness_ForwardOrderDiffersBetweenSlots :
    ready.constructed = true ∧ ready.blocked = none ∧ ready.oracle.expReply = .ok ∧ ready.oracle.popExp.expReply = .ok ∧
    (1 : Fin 4).val < 2 ∧ 2 ≤ (2 : Fin 4).val := by decide
theorem witness_MotorDutyIsAMultipleOfSixteen : (255 : Nat) < 256 ∧ 4096 ≤ 256 * 16 := by decide
theorem witness_FirstExpanderCallStalls :
    (answering [.never] unbuilt).constructed = false ∧ (answering [.never] ready).constructed = true ∧
    (answering [.never] unbuilt).oracle.expReply = .never ∧
    (answering [.never] ready).oracle.expReply = .never := by decide

/-- M1 runs forward and is reversed; stopped, with three writes answered Ok. -/
theorem witness_ReversalPassesThroughBothChannelsOn :
    forwards.constructed = true ∧ forwards.blocked = none ∧
    motorFwd forwards.cfg 0 ≠ motorRev forwards.cfg 0 ∧ dutyComesFirst forwards.cfg .reverse ∧
    (0 : Nat) < 1 ∧ (0 : Nat) < 4080 ∧ forwards.oracle.expReply = .ok ∧
    forwards.expander.chan.read (idleChannel forwards.cfg 0 .reverse) = some ⟨0, 4080⟩ ∧
    forwards.oracle.popExp.expReply = .ok ∧ forwards.oracle.popExp.popExp.expReply = .ok :=
  ⟨rfl, rfl, by decide, .inr rfl, by decide, by decide, rfl, rfl, rfl, rfl⟩
/-- The second write answered in each of the three ways, with a reset to come. -/
theorem witness_RunningMotorCommandMakesItsSecondWrite :
    running.blocked = none ∧ running.pending = some ⟨9, 0⟩ ∧ running.oracle.expReply = .ok ∧
    (answering [.err (.native 3)] running).oracle.expReply = .err (.native 3) ∧
    (answering [.never] running).oracle.expReply = .never := by decide
theorem witness_SecondExpanderCallStalls :
    (answering [.ok, .never] ready).blocked = none ∧ (answering [.ok, .never] ready).pending = none ∧
    (answering [.ok, .never] ready).oracle.expReply = .ok ∧
    (answering [.ok, .never] ready).oracle.popExp.expReply = .never ∧
    (answering [.ok, .never] unbuilt).constructed = false ∧ (answering [.ok, .never] ready).constructed = true ∧
    motorFwd ready.cfg 2 ≠ motorRev ready.cfg 2 := by decide

/-! ## Witnesses: INIT -/

theorem witness_InitConstructsTheBlock :
    unbuilt.constructed = false ∧ unbuilt.oracle.expReply = .ok ∧ unbuilt.oracle.popExp.expReply = .ok := by decide
/-- Both ways to fail, each with a retry whose calls succeed. -/
theorem witness_InitFailsAndCanBeRetried :
    (answering [.err (.native 3), .ok, .ok] unbuilt).constructed = false ∧
    (answering [.err (.native 3), .ok, .ok] unbuilt).oracle.expReply = .err (.native 3) ∧
    (answering [.ok, .err (.native 3), .ok, .ok] unbuilt).oracle.expReply = .ok ∧
    (answering [.ok, .err (.native 3), .ok, .ok] unbuilt).oracle.popExp.expReply = .err (.native 3) ∧
    seen (fun t => (t.oracle.expReply, t.oracle.popExp.expReply))
      (exec .init (answering [.ok, .err (.native 3), .ok, .ok] unbuilt)) = some (.ok, .ok) ∧
    seen (fun t => (t.oracle.expReply, t.oracle.popExp.expReply))
      (exec .init (answering [.err (.native 3), .ok, .ok] unbuilt)) = some (.ok, .ok) := by decide

theorem witness_FailedInitAndTheChipsShadow :
    (answering [.err (.native 3)] unbuilt).constructed = false ∧
    (answering [.err (.native 3)] unbuilt).oracle.expReply = .err (.native 3) ∧
    (answering [.ok, .err (.native 3)] unbuilt).oracle.expReply = .ok ∧
    (answering [.ok, .err (.native 3)] unbuilt).oracle.popExp.expReply = .err (.native 3) := by decide

/-! ## Witnesses: invariants -/

/-- A channel write in the history, the shadow that agrees with it, and a step that writes again. -/
def written : State :=
  { offered 0x7000010F#32 ready with
    history := [⟨.exp (.setChannelOnOff 8 0 240), .ok⟩], expander := ⟨none, none, [(8, ⟨0, 240⟩)]⟩ }

theorem witness_StepKeepsHistoryLegal : HistoryLegal written ∧ ∃ t, step written = .next t := by
  refine ⟨?_, _, rfl⟩
  simp [HistoryLegal, written, offered, ready, CallLegal, AnswerLegal, boundChannels, reference]
/-- Between commands, and between the two writes of DRIVE_MOTOR. -/
theorem witness_StepKeepsPortConsistent :
    (PortConsistent written ∧ ∃ t, step written = .next t) ∧
    PortConsistent running ∧ ∃ t, step running = .next t :=
  ⟨⟨⟨by simp [written, offered, ready], fun h => absurd rfl h⟩, _, rfl⟩,
    ⟨by simp [running, ready], fun _ => ⟨rfl, rfl, [], ⟨8, 3200⟩, rfl⟩⟩, _, rfl⟩
/-- A load error that was not reclaimed. -/
theorem witness_StepKeepsTransmitExplained :
    TransmitExplained { offered 0x40000000#32 lent with
      history := [⟨.pwmLoad lent.pulse none true, .perErr ⟨7⟩⟩] } ∧
    ∃ t, step { offered 0x40000000#32 lent with
      history := [⟨.pwmLoad lent.pulse none true, .perErr ⟨7⟩⟩] } = .next t :=
  ⟨fun _ => ⟨rfl, .inr ⟨rfl, _, _, List.mem_singleton.mpr rfl⟩⟩, _, rfl⟩
theorem witness_StepKeepsShadowAgrees : ShadowAgrees written ∧ ∃ t, step written = .next t := by
  refine ⟨⟨by decide, fun ch e h => ?_⟩, _, rfl⟩
  have hm : e = ⟨.exp (.setChannelOnOff 8 0 240), .ok⟩ ∧ 8 = ch := by
    by_cases hc : 8 = ch <;> simp_all [written, lastWrite, writesChannel]
  obtain ⟨rfl, rfl⟩ := hm
  rfl
/-- A line that has carried a bit. -/
theorem witness_StepKeepsLineLegal :
    LineLegal { offered 0x40000000#32 ready with pwm := { Pwm.unknown with wire := [⟨13, 7⟩] } } ∧
    ∃ t, step { offered 0x40000000#32 ready with pwm := { Pwm.unknown with wire := [⟨13, 7⟩] } } = .next t :=
  ⟨⟨by decide, by decide, fun h => absurd rfl h⟩, _, rfl⟩

end Sys2Proof.Tests
end

/-! ## The frame, bit by bit (30_encoding.md R92) -/

namespace Sys2Proof.Machine

/-- Settles O29: the entry at `8i + j` lies in byte `i` and belongs to bit `7 - j`. -/
theorem frameIsBitByBit : Obligations.FrameIsBitByBit := by
  intro cfg store
  refine ⟨fun i j => ?_, encodeFrame_96 cfg store, encodeFrame_97 cfg store⟩
  have hbyte : (8 * i.val + j.val) / 8 = i.val := by omega
  have hbit : (8 * i.val + j.val) % 8 = j.val := by omega
  rw [encodeFrame_get cfg store _ (by omega)]
  simp only [hbyte, hbit, bitCode]

end Sys2Proof.Machine

/-! ## Words the decoder rejects (30_encoding.md R81, R86) -/

namespace Sys2Proof

/-- A slice reads nonzero exactly when not all its bits are 0. -/
theorem slice_ne_zero_iff (w : Word) (hi lo : Nat) : slice w hi lo ≠ 0 ↔ w.extractLsb hi lo ≠ 0 := by
  simp only [slice, ne_eq, BitVec.toNat_eq, BitVec.ofNat_eq_ofNat, BitVec.toNat_zero]

/-- A slice of one bit reads nonzero exactly when that bit is 1. -/
theorem slice_bit_ne_zero_iff (w : Word) (k : Nat) : slice w k k ≠ 0 ↔ w.getLsbD k = true := by
  simp [slice, BitVec.getLsbD, Nat.testBit, Nat.one_and_eq_mod_two]

/-- A command with reserved bits is rejected exactly when they do not read zero. -/
theorem whenClear_error_iff (opcode reserved : Nat) (i : Instr) :
    (∃ e, whenClear opcode reserved i = .error e) ↔ reserved ≠ 0 := by
  unfold whenClear
  split
  · simp [*]
  · simp [*]

/-- The decoder rejects a word exactly for an undefined opcode, or for a 1 in a bit that the format of its
opcode marks 0. -/
theorem decode_error_iff (w : Word) : (∃ e, decode w = .error e) ↔
    (slice w 31 28 = 0 ∨ 8 ≤ slice w 31 28) ∨
    ((slice w 31 28 = 1 ∨ slice w 31 28 = 4 ∨ slice w 31 28 = 5) ∧ slice w 27 0 ≠ 0) ∨
    (slice w 31 28 = 2 ∧ slice w 27 27 ≠ 0) ∨
    (slice w 31 28 = 3 ∧ slice w 27 24 ≠ 0) ∨
    (slice w 31 28 = 6 ∧ (slice w 27 27 ≠ 0 ∨ slice w 23 16 ≠ 0)) ∨
    (slice w 31 28 = 7 ∧ (slice w 27 26 ≠ 0 ∨ slice w 23 9 ≠ 0)) := by
  unfold decode
  split
  case h_8 =>
    simp only [imp_false] at *
    exact iff_of_true ⟨_, rfl⟩ (.inl (by omega))
  all_goals
    rw [whenClear_error_iff]
    omega

end Sys2Proof

namespace Sys2Proof.Machine

/-- A free port refuses an invalid word in front of it. -/
theorem step_invalid_word {s : State} {w : Word} {rest : List Input} {e : DecodeError}
    (hb : s.blocked = none) (hp : s.pending = none) (hi : s.inbox = .command w :: rest)
    (hd : decode w = .error e) : step s = .refused (.invalidWord e) := by
  simp [step, portOffer, hb, hp, hi, runWord, hd]

/-- Settles O3: the decoder's reserved slices, read back as the bits of the word. -/
theorem invalidWordsAreRefused : Obligations.InvalidWordsAreRefused := by
  refine ⟨fun w => ?_, ⟨.undefinedOpcode 0, rfl⟩, ⟨.undefinedOpcode 15, rfl⟩,
    fun _ _ _ _ hb hp hi hd => step_invalid_word hb hp hi hd⟩
  rw [decode_error_iff]
  simp only [slice_bit_ne_zero_iff]
  simp only [slice_ne_zero_iff]
  rfl

end Sys2Proof.Machine

/-! ## One response for each command that ends (30_encoding.md R89) -/

namespace Sys2Proof.Machine

/-- The response has the status and payload that a row of the table of R89 gives the command. -/
def Response.FitsTable (i : Instr) (r : Response) : Prop :=
  (r.status = 0 ∧ i ≠ .getColors ∧ r.payload = .empty) ∨
  (r.status = 0 ∧ i = .getColors ∧ ∃ pay, r.payload = .colours pay) ∨
  (r.status = 1 ∧ ∃ e, r.payload = .perErr e) ∨
  (r.status = 2 ∧ ∃ e, r.payload = .expErr e) ∨
  (r.status = 3 ∧ r.payload = .empty) ∨
  (r.status = 4 ∧ r.payload = .empty)

/-- The command was answered by one fitting response, or hangs in a call and has none. -/
def AnsweredOrHung (i : Instr) (s t : State) : Prop :=
  (t.blocked = none ∧ ∃ r, t.responses = s.responses ++ [r] ∧ r.FitsTable i) ∨
  (t.blocked ≠ none ∧ t.responses = s.responses)

/-- An error's response fits every command. -/
theorem encodeResponse_error_fits (i : Instr) (k : ErrorKind) :
    (encodeResponse (.error k)).FitsTable i := by
  cases k <;> simp [Response.FitsTable, encodeResponse]

section
variable {i : Instr} {s u : State}

/-- A command other than GET_COLORS that ends with `Ok` was answered. -/
theorem AnsweredOrHung.respond_ok (hi : i ≠ .getColors) (hb : u.blocked = none)
    (hr : u.responses = s.responses) : AnsweredOrHung i s (u.respond .ok) :=
  .inl ⟨hb, encodeResponse .ok, by simp [hr], .inl ⟨rfl, hi, rfl⟩⟩

/-- GET_COLORS that ends with its colours was answered. -/
theorem AnsweredOrHung.respond_colours (cs : Vector Rgb 4) (hb : u.blocked = none)
    (hr : u.responses = s.responses) : AnsweredOrHung .getColors s (u.respond (.colours cs)) :=
  .inl ⟨hb, encodeResponse (.colours cs), by simp [hr], .inr (.inl ⟨rfl, rfl, _, rfl⟩)⟩

/-- A command that ends with an error was answered. -/
theorem AnsweredOrHung.raise (e : LeafError) (hb : u.blocked = none)
    (hr : u.responses = s.responses) : AnsweredOrHung i s (u.raise e) :=
  .inl ⟨hb, encodeResponse (.error (wrapError e)), by simp [hr], encodeResponse_error_fits i _⟩

/-- A command that stalls hangs and has no response. -/
theorem AnsweredOrHung.stall (c : Call) (hr : u.responses = s.responses) :
    AnsweredOrHung i s (u.stall c) :=
  .inr ⟨by simp, by simp [hr]⟩

/-- A command that ends in its one step was answered or hangs. -/
theorem exec_answeredOrHung {t : State} (hb : s.blocked = none) (h : exec i s = .next t)
    (ht : t.pending = none) : AnsweredOrHung i s t := by
  revert ht
  refine exec_elim (P := fun t => t.pending = none → AnsweredOrHung i s t) h
    ?pix ?bad ?all ?get ?unbound ?showSet ?showErr ?showLoad ?showSplit ?showOk ?servoBad ?servo ?motor ?ini
  case pix => exact fun _ _ _ hi _ _ => .respond_ok (by simp [hi]) hb rfl
  case bad => exact fun _ _ _ _ _ _ => .raise _ hb rfl
  case all => exact fun _ hi _ _ => .respond_ok (by simp [hi]) hb rfl
  case get =>
    rintro rfl _ _
    exact .respond_colours _ hb rfl
  case unbound => exact fun _ _ _ _ => .raise _ hb rfl
  case showSet => exact fun _ _ _ _ _ _ _ _ => .stall _ (by simp)
  case showErr =>
    exact fun _ _ _ _ _ => .raise _ (by simpa [State.afterLoadError_eq] using hb)
      (by simp [State.afterLoadError_eq])
  case showLoad => exact fun _ _ _ _ => .stall _ (by simp)
  case showSplit => exact fun _ _ _ _ => .stall _ (by simp)
  case showOk => exact fun hi _ _ _ => .respond_ok (by simp [hi]) (by simpa using hb) (by simp)
  case servoBad => exact fun _ _ _ _ _ _ => .raise _ hb rfl
  case servo =>
    exact fun _ _ _ hi _ _ _ _ => ⟨fun _ => .respond_ok (by simp [hi]) hb rfl,
      fun _ _ => .raise _ hb rfl, fun _ => .stall _ rfl⟩
  case motor =>
    refine fun _ _ _ _ _ _ _ _ _ => ⟨fun hp => ?_, fun _ _ => .raise _ hb rfl, fun _ => .stall _ rfl⟩
    simp at hp
  case ini =>
    exact fun hi _ _ _ _ _ => ⟨fun _ => .respond_ok (by simp [hi]) hb rfl,
      fun _ _ => .raise _ hb rfl, fun _ => .stall _ rfl, fun _ _ => .raise _ hb rfl, fun _ => .stall _ rfl⟩

/-- The second write of DRIVE_MOTOR leaves no write to be made, and the command was answered or hangs. -/
theorem finishDriveMotor_answeredOrHung (w : ChannelWrite) (hi : i ≠ .getColors) (hb : u.blocked = none)
    (hr : u.responses = s.responses) :
    (finishDriveMotor w u).pending = none ∧ AnsweredOrHung i s (finishDriveMotor w u) :=
  finishDriveMotor_elim (P := fun t => t.pending = none ∧ AnsweredOrHung i s t) w u
    (fun _ => ⟨rfl, .respond_ok hi hb hr⟩) (fun e _ => ⟨rfl, .raise (.mapper e) hb hr⟩)
    fun _ => ⟨rfl, .stall _ hr⟩

end

/-- Settles O14, by the two ways a command can end: in its one step, or in the second write of
DRIVE_MOTOR. -/
theorem oneResponseUnlessStalled : Obligations.OneResponseUnlessStalled := by
  intro i s t hb hp h
  refine execWhole_cases (P := fun t => t.pending = none ∧ AnsweredOrHung i s t) hp h
    (fun t ht hpt => ⟨hpt, exec_answeredOrHung hb ht hpt⟩) fun m d v hi _ _ => ?_
  exact finishDriveMotor_answeredOrHung _ (by simp [hi]) hb rfl

end Sys2Proof.Machine

/-! ## The pixel store commands (40_pixel_store.md) -/

namespace Sys2Proof.Machine

/-- The three bytes of the written position, in G, R, B order (40_pixel_store.md R111). -/
theorem writePixel_get_position (store : Vector Byte 15) (p : Fin 5) (c : Rgb) :
    (writePixel store p c)[3 * p.val] = c.g ∧ (writePixel store p c)[3 * p.val + 1] = c.r ∧
      (writePixel store p c)[3 * p.val + 2] = c.b := by
  simp [writePixel_get]

/-- A byte of another position stays (40_pixel_store.md R111). -/
theorem writePixel_get_other (store : Vector Byte 15) (p : Fin 5) (c : Rgb) (k : Nat) (hk : k < 15)
    (h : k / 3 ≠ p.val) : (writePixel store p c)[k] = store[k] := by
  rw [writePixel_get, if_neg (by omega), if_neg (by omega), if_neg (by omega)]

/-- What the colours read are after a pixel write: the written position's is new, the others stay
(40_pixel_store.md R118). -/
theorem readColours_writePixel_get (store : Vector Byte 15) (p : Fin 5) (c : Rgb) (i : Nat) (hi : i < 4) :
    (readColours (writePixel store p c))[i] = if i = p.val then c else (readColours store)[i] := by
  rw [readColours_get, readColours_get]
  split
  case isTrue h =>
    obtain ⟨hg, hr, hb⟩ := writePixel_get_position store p c
    subst h
    rw [hg, hr, hb]
  case isFalse h =>
    rw [writePixel_get_other store p c (3 * i) _ (by omega),
      writePixel_get_other store p c (3 * i + 1) _ (by omega),
      writePixel_get_other store p c (3 * i + 2) _ (by omega)]

/-- The whole store after SET_ALL_PIXELS is the triplet five times, whatever it held
(40_pixel_store.md R114). -/
theorem writeAllPixels_toList (store : Vector Byte 15) (c : Rgb) :
    (writeAllPixels store c).toList = (List.replicate 5 [c.g, c.r, c.b]).flatten := by
  have hall : writeAllPixels store c =
      Vector.ofFn fun k : Fin 15 => if k.val % 3 = 0 then c.g else if k.val % 3 = 1 then c.r else c.b :=
    Vector.ext fun k hk => by rw [writeAllPixels_get, Vector.getElem_ofFn]
  rw [hall]
  rfl

section
variable {s : State}

/-- SET_PIXEL inside 0..4 at a constructed block. -/
theorem exec_setPixel_inside (hc : s.constructed = true) {p : Nat} (hp : p < 5) (c : Rgb) :
    exec (.setPixel p c) s = .next ({ s with store := writePixel s.store ⟨p, hp⟩ c }.respond .ok) := by
  rw [exec, execSetPixel, whenConstructed_true hc, dif_pos hp]

/-- SET_PIXEL outside 0..4 at a constructed block. -/
theorem exec_setPixel_outside (hc : s.constructed = true) {p : Nat} (hp : 5 ≤ p) (c : Rgb) :
    exec (.setPixel p c) s = .next (s.raise .position) := by
  rw [exec, execSetPixel, whenConstructed_true hc, dif_neg (by omega)]

/-- SET_ALL_PIXELS at a constructed block. -/
theorem exec_setAllPixels (hc : s.constructed = true) (c : Rgb) :
    exec (.setAllPixels c) s = .next ({ s with store := writeAllPixels s.store c }.respond .ok) :=
  whenConstructed_true hc

/-- GET_COLORS at a constructed block. -/
theorem exec_getColors (hc : s.constructed = true) :
    exec .getColors s = .next (s.respond (.colours (readColours s.store))) :=
  whenConstructed_true hc

end

/-- Settles O19: the bytes of one `writePixel`, and the example word. -/
theorem setPixelStoresGreenRedBlue : Obligations.SetPixelStoresGreenRedBlue := by
  refine ⟨fun s p c hc hp => ?_, rfl, fun s hc hs => ?_⟩
  · have hp : p < 5 := by omega
    exact ⟨writePixel s.store ⟨p, hp⟩ c, fun k => writePixel_get s.store ⟨p, hp⟩ c k.val k.isLt,
      exec_setPixel_inside hc hp c⟩
  · refine ⟨_, exec_setPixel_inside hc (by omega) _, ?_⟩
    rw [State.respond_store, hs]
    rfl

/-- Settles O22: each byte by its offset within its triplet. -/
theorem setAllPixelsWritesFivePositions : Obligations.SetAllPixelsWritesFivePositions := by
  refine ⟨fun s c hc => ⟨writeAllPixels s.store c, fun p => ?_, exec_setAllPixels hc c⟩, rfl,
    fun s hc => ⟨_, exec_setAllPixels hc _, writeAllPixels_toList s.store _⟩⟩
  have h₀ : 3 * p.val % 3 = 0 := by omega
  have h₁ : (3 * p.val + 1) % 3 = 1 := by omega
  have h₂ : (3 * p.val + 2) % 3 = 2 := by omega
  simp [writeAllPixels_get, h₀, h₁, h₂]

/-- Settles O23: the payload packs the first four triplets, and reads back as them. -/
theorem getColorsAnswersTheStagedColours : Obligations.GetColorsAnswersTheStagedColours := by
  refine ⟨fun s hc => ⟨packColours (readColours s.store), exec_getColors hc, fun i => ?_⟩,
    fun s hc hs => ?_⟩
  · rw [payloadColour_packColours _ i.val i.isLt, readColours_get]
  · have hstore : s.store = #v[0x34, 0x12, 0x56, 0, 0, 0, 0, 0, 0, 0, 0, 0, 0, 0, 0] :=
      Vector.toList_inj.mp hs
    have hpay : packColours (readColours s.store) = 0x000000000000000000123456 := by
      rw [hstore]
      decide
    rw [exec_getColors hc, State.respond, encodeResponse, hpay]

/-- Settles O24: the colours read before and after differ at the written position only. -/
theorem setThenGetReturnsTheColour : Obligations.SetThenGetReturnsTheColour := by
  intro s p c hc hp
  have hp5 : p < 5 := by omega
  have hread := readColours_writePixel_get s.store ⟨p, hp5⟩ c
  obtain ⟨hg, hr, hb⟩ := writePixel_get_position s.store ⟨p, hp5⟩ c
  refine ⟨_, packColours (readColours s.store), packColours (readColours (writePixel s.store ⟨p, hp5⟩ c)),
    exec_setPixel_inside hc hp5 c, exec_getColors hc, exec_getColors hc,
    fun hp3 => ⟨?_, Vector.getElem?_eq_some_iff.mpr ⟨_, hg⟩, Vector.getElem?_eq_some_iff.mpr ⟨_, hr⟩,
      Vector.getElem?_eq_some_iff.mpr ⟨_, hb⟩⟩, fun q hq => ?_⟩
  · rw [payloadColour_packColours _ p (by omega), hread, if_pos rfl]
  · rw [payloadColour_packColours _ q.val q.isLt, payloadColour_packColours _ q.val q.isLt, hread, if_neg hq]

/-- Settles O20: the position is checked before any write. -/
theorem setPixelRejectsBadPosition : Obligations.SetPixelRejectsBadPosition :=
  ⟨fun _ _ c hc hp => exec_setPixel_outside hc hp c, rfl⟩

end Sys2Proof.Machine

/-! ## SHOW without its transmitter (41_show.md R140) -/

namespace Sys2Proof.Machine

/-- SHOW at a constructed block that has lent its transmitter raises at the guard, before the frame is
filled and before any call (41_show.md R131, R140). -/
theorem exec_showFrame_transmitting {s : State} (hc : s.constructed = true) (ht : s.txState = .transmitting) :
    exec .showFrame s = .next (s.raise .pwmIsUnbound) := by
  rw [exec, execShow, whenConstructed_true hc, ht]

/-- Settles O35: raising at the guard appends the wrapped error's response and nothing else. -/
theorem showInTransmittingIsUnbound : Obligations.ShowInTransmittingIsUnbound :=
  fun _ hc ht => ⟨rfl, rfl, exec_showFrame_transmitting hc ht⟩

end Sys2Proof.Machine

/-! ## The range remap (42_channel_mapper.md R165, R166) -/

namespace Sys2Proof.Machine

section
variable {value a b c d : Int}

/-- Bounds off the domain of R166 are refused. -/
theorem mapRange_off_domain (h : ¬ (0 ≤ a ∧ a < b ∧ 0 ≤ c ∧ c ≤ d)) : mapRange value a b c d = .refused :=
  if_neg h

/-- On its domain the remap has no result for a value outside `[a, b]`. -/
theorem mapRange_outside (hdom : 0 ≤ a ∧ a < b ∧ 0 ≤ c ∧ c ≤ d) (h : value < a ∨ value > b) :
    mapRange value a b c d = .noResult := by
  rw [mapRange, if_pos hdom, if_pos h]

/-- On its domain the remap follows the formula of R165 for a value inside `[a, b]`. -/
theorem mapRange_inside (hdom : 0 ≤ a ∧ a < b ∧ 0 ≤ c ∧ c ≤ d) (ha : a ≤ value) (hb : value ≤ b) :
    mapRange value a b c d = .value ((value - a) * (d - c) / (b - a) + c) := by
  rw [mapRange, if_pos hdom, if_neg (by omega)]

/-- A remap with a value followed the formula. -/
theorem mapRange_value {r : Int} (h : mapRange value a b c d = .value r) :
    r = (value - a) * (d - c) / (b - a) + c := by
  unfold mapRange at h
  split_ifs at h
  exact (Remap.value.inj h).symm

/-- The lower end goes to the lower end. -/
theorem mapRange_lower (hdom : 0 ≤ a ∧ a < b ∧ 0 ≤ c ∧ c ≤ d) : mapRange a a b c d = .value c := by
  have hinside := mapRange_inside (value := a) hdom
  obtain ⟨-, hab, -⟩ := hdom
  rw [hinside le_rfl hab.le, sub_self, zero_mul, Int.zero_ediv, zero_add]

/-- The upper end goes to the upper end: the division is exact there. -/
theorem mapRange_upper (hdom : 0 ≤ a ∧ a < b ∧ 0 ≤ c ∧ c ≤ d) : mapRange b a b c d = .value d := by
  have hinside := mapRange_inside (value := b) hdom
  obtain ⟨-, hab, -⟩ := hdom
  rw [hinside hab.le le_rfl, Int.mul_ediv_cancel_left _ (by omega), sub_add_cancel]

/-- The formula keeps the order of its values. -/
theorem mapRange_formula_mono {value' : Int} (hab : a < b) (hcd : c ≤ d) (h : value ≤ value') :
    (value - a) * (d - c) / (b - a) + c ≤ (value' - a) * (d - c) / (b - a) + c := by
  have hprod : (value - a) * (d - c) ≤ (value' - a) * (d - c) :=
    mul_le_mul_of_nonneg_right (by omega) (by omega)
  exact add_le_add_left (Int.ediv_le_ediv (by omega) hprod) c

/-- The remap never decreases. -/
theorem mapRange_mono {value' r r' : Int} (hab : a < b) (hcd : c ≤ d) (hle : value ≤ value')
    (h : mapRange value a b c d = .value r) (h' : mapRange value' a b c d = .value r') : r ≤ r' := by
  rw [mapRange_value h, mapRange_value h']
  exact mapRange_formula_mono hab hcd hle

end

/-- Settles O39: the formula's bounds on `[a, b]` are its values at the two ends, since the remap never
decreases. -/
theorem mapRangeOnItsDomain : Obligations.MapRangeOnItsDomain := by
  refine ⟨fun value a b c d h₀ hab hc hcd => ?_, fun _ _ _ _ _ => mapRange_off_domain⟩
  have hdom : 0 ≤ a ∧ a < b ∧ 0 ≤ c ∧ c ≤ d := ⟨h₀, hab, hc, hcd⟩
  refine ⟨mapRange_outside hdom, fun ha hb => ?_, mapRange_lower hdom, mapRange_upper hdom,
    fun _ _ _ => mapRange_mono hab hcd⟩
  have hvalue := mapRange_inside hdom ha hb
  rw [Int.fdiv_eq_ediv_of_nonneg _ (by omega)]
  exact ⟨hvalue, mapRange_mono hab hcd ha (mapRange_lower hdom) hvalue,
    mapRange_mono hab hcd hb hvalue (mapRange_upper hdom)⟩

end Sys2Proof.Machine

/-! ## The servo tick over natural degrees (42_channel_mapper.md R176, R179) -/

namespace Sys2Proof.Machine

/-- Clamping a natural number of degrees only saturates it at 270. -/
theorem clamp_degrees (deg : Nat) : clamp deg 0 270 = (min deg 270 : Nat) := by
  unfold clamp
  omega

/-- The remap of the clamped degrees has a natural value. -/
theorem mapRange_degrees (deg : Nat) :
    mapRange (clamp deg 0 270) 0 270 0 180 = .value (min deg 270 * 180 / 270 : Nat) := by
  rw [mapRange_servo, clamp_degrees]
  simp

/-- The tick of a remapped value is a floor division of natural numbers. -/
theorem widthTick_servoWidth (v : Nat) : widthTick (servoWidth v) = ((v * 10 + 600) * 4096 / 20000 : Nat) := by
  simp [widthTick, servoWidth]

/-- Neither check of MOVE_SERVO fails: the tick is always the one of the formula. -/
theorem servoTick_eq (deg : Nat) :
    servoTick deg = .tick (((min deg 270 * 180 / 270) * 10 + 600) * 4096 / 20000) := by
  have hcheck : ¬ ((((min deg 270 * 180 / 270) * 10 + 600) * 4096 / 20000 : Nat) : Int) > 4095 := by omega
  simp only [servoTick, mapRange_degrees, widthTick_servoWidth]
  rw [if_neg hcheck, Int.toNat_natCast]

/-- The tick in a successful answer is the formula's. -/
theorem servoTick_tick {deg n : Nat} (h : servoTick deg = .tick n) :
    n = ((min deg 270 * 180 / 270) * 10 + 600) * 4096 / 20000 := by
  rw [servoTick_eq] at h
  exact (ServoTick.tick.inj h).symm

/-- From 270 degrees on the tick is that of 270. -/
theorem servoTick_saturates {deg : Nat} (h : 270 ≤ deg) : servoTick deg = .tick 491 := by
  rw [servoTick_eq, min_eq_right h]

/-- The tick never decreases: clamp, remap, width and tick each keep the order. -/
theorem servoTick_mono {deg deg' m n : Nat} (hle : deg ≤ deg') (h : servoTick deg = .tick m)
    (h' : servoTick deg' = .tick n) : m ≤ n := by
  rw [servoTick_tick h, servoTick_tick h']
  gcongr

/-- One remapped value more is at least two ticks more, so distinct remapped values have distinct ticks. -/
theorem widthTick_lt_of_lt {v v' : Nat} (h : v < v') :
    (v * 10 + 600) * 4096 / 20000 < (v' * 10 + 600) * 4096 / 20000 := by
  omega

/-- Every remapped value comes from some angle: the least one that reaches it. -/
theorem exists_degrees_of_remapped {v : Nat} (h : v ≤ 180) : ∃ deg ≤ 270, min deg 270 * 180 / 270 = v :=
  ⟨(v * 270 + 179) / 180, by omega, by omega⟩

/-- Settles O40: all clauses follow from the tick's formula over natural numbers. -/
theorem servoTickValues : Obligations.ServoTickValues :=
  ⟨servoTick_eq, fun _ => exists_degrees_of_remapped, fun deg => by omega, fun _ _ h _ => widthTick_lt_of_lt h,
    ⟨servoTick_eq 0, servoTick_eq 1, fun _ => servoTick_saturates⟩, fun _ _ _ _ => servoTick_mono,
    (servoTick_saturates (by decide : 270 ≤ 271)).trans (servoTick_saturates le_rfl).symm, by decide⟩

end Sys2Proof.Machine

/-! ## The motor duty (42_channel_mapper.md R183) -/

namespace Sys2Proof.Machine

/-- The clamp never acts on an 8-bit speed. -/
theorem motorDuty_of_lt {speed : Nat} (h : speed < 256) : motorDuty speed = speed * 16 :=
  min_eq_right (by omega)

/-- The clamp holds a larger product down to 4095. -/
theorem motorDuty_of_large {speed : Nat} (h : 4096 ≤ speed * 16) : motorDuty speed = 4095 :=
  min_eq_left (by omega)

/-- Settles O46: below 256 the duty is the product, which misses 4095. -/
theorem motorDutyIsAMultipleOfSixteen : Obligations.MotorDutyIsAMultipleOfSixteen := by
  refine ⟨fun _ => rfl, rfl, rfl, fun speed h => ?_, fun _ => motorDuty_of_large⟩
  have hduty := motorDuty_of_lt h
  exact ⟨hduty, hduty ▸ Nat.dvd_mul_left 16 speed, by omega, by omega⟩

end Sys2Proof.Machine

/-! ## DRIVE_MOTOR with failing and succeeding writes (42_channel_mapper.md R182, R186, R189) -/

namespace Sys2Proof.Machine

/-- The two writes of a DRIVE_MOTOR go to the two channels of its slot, in one order or the other. -/
theorem motorFirst_motorSecond_ch (cfg : Config) (m : Fin 4) (d : Direction) (v : Nat) :
    ((motorFirst cfg m d v).ch = motorFwd cfg m ∧ (motorSecond cfg m d v).ch = motorRev cfg m) ∨
    ((motorFirst cfg m d v).ch = motorRev cfg m ∧ (motorSecond cfg m d v).ch = motorFwd cfg m) := by
  unfold motorFirst motorSecond
  split
  · exact .inl ⟨rfl, rfl⟩
  · exact .inr ⟨rfl, rfl⟩
  · exact .inl ⟨rfl, rfl⟩

/-- With two different channels in the slot, the two writes go to different channels. -/
theorem motorFirst_ch_ne_motorSecond_ch {cfg : Config} {m : Fin 4} (d : Direction) (v : Nat)
    (h : motorFwd cfg m ≠ motorRev cfg m) : (motorFirst cfg m d v).ch ≠ (motorSecond cfg m d v).ch := by
  obtain ⟨hfirst, hsecond⟩ | ⟨hfirst, hsecond⟩ := motorFirst_motorSecond_ch cfg m d v
  · rwa [hfirst, hsecond]
  · rw [hfirst, hsecond]
    exact h.symm

/-- The state after both writes of a DRIVE_MOTOR were issued: the first answered Ok, the second `r`. -/
def State.afterBothWrites (s : State) (x y : ChannelWrite) (r : Reply ExpErr) : State :=
  ((s.afterExp x.call .ok).holdWrite y).takeWrite.afterExp y.call r

/-- The two writes leave their two events, in their order. -/
@[simp] theorem State.afterBothWrites_history (s : State) (x y : ChannelWrite) (r : Reply ExpErr) :
    (s.afterBothWrites x y r).history = s.history ++ [⟨.exp x.call, .ok⟩, ⟨.exp y.call, expAnswer r⟩] := by
  simp [State.afterBothWrites, expAnswer]

section
variable {s : State} (m : Fin 4) (d : Direction) (v : Nat) {e : ExpErr}

/-- A first write answered Err ends the command. -/
theorem exec_driveMotor_err (hc : s.constructed = true) (h : s.oracle.expReply = .err e) :
    exec (.driveMotor m d v) s =
      .next ((s.afterExp (motorFirst s.cfg m d v).call (.err e)).raise (.mapper e)) := by
  rw [exec, execDriveMotor, whenConstructed_true hc, setChannel, callExp_err h]

/-- A second write answered Err ends the command after the first has taken effect. -/
theorem execWhole_driveMotor_ok_err (hc : s.constructed = true) (hb : s.blocked = none)
    (h₁ : s.oracle.expReply = .ok) (h₂ : s.oracle.popExp.expReply = .err e) :
    execWhole (.driveMotor m d v) s =
      .next ((s.afterBothWrites (motorFirst s.cfg m d v) (motorSecond s.cfg m d v) (.err e)).raise (.mapper e)) := by
  rw [execWhole_driveMotor_ok m d v hc hb h₁, finishDriveMotor_err _ h₂]
  rfl

/-- Two writes answered Ok end the command with Ok. -/
theorem execWhole_driveMotor_ok_ok (hc : s.constructed = true) (hb : s.blocked = none)
    (h₁ : s.oracle.expReply = .ok) (h₂ : s.oracle.popExp.expReply = .ok) :
    execWhole (.driveMotor m d v) s =
      .next ((s.afterBothWrites (motorFirst s.cfg m d v) (motorSecond s.cfg m d v) .ok).respond .ok) := by
  rw [execWhole_driveMotor_ok m d v hc hb h₁, finishDriveMotor_ok _ h₂]
  rfl

end

/-- Settles O44: a failed write makes its own channel unknown and no other. -/
theorem driveMotorPartialFailure : Obligations.DriveMotorPartialFailure := by
  intro s m dir speed e hc
  refine ⟨fun h => ?_, fun hb h₁ h₂ => ?_⟩
  · exact ⟨s.expander.chan.forget (motorFirst s.cfg m dir speed).ch, ChannelMap.read_forget_same _ _,
      fun ch hch => ChannelMap.read_forget_other _ hch, exec_driveMotor_err m dir speed hc h⟩
  · refine ⟨(s.expander.chan.write (motorFirst s.cfg m dir speed).ch
        ⟨0, (motorFirst s.cfg m dir speed).off⟩).forget (motorSecond s.cfg m dir speed).ch,
      ChannelMap.read_forget_same _ _, fun hne => ?_, fun ch hfirst hsecond => ?_, ?_⟩
    · rw [ChannelMap.read_forget_other _ (motorFirst_ch_ne_motorSecond_ch dir speed hne),
        ChannelMap.read_write_same]
    · rw [ChannelMap.read_forget_other _ hsecond, ChannelMap.read_write_other _ _ hfirst]
    · rw [execWhole_driveMotor_ok_err m dir speed hc hb h₁ h₂, State.raise, State.respond]
      simp only [State.afterBothWrites_history]
      rfl

/-- Settles O45: a forward command writes the duty to `MOTOR_FWD` first, and the table of R172 puts the
pair's second channel there in slots 1 and 2, its first in slots 3 and 4. -/
theorem forwardOrderDiffersBetweenSlots : Obligations.ForwardOrderDiffersBetweenSlots := by
  refine ⟨fun s m speed hc hb h₁ h₂ => ?_, fun _ => rfl, rfl, rfl⟩
  refine ⟨_, execWhole_driveMotor_ok_ok m .forward speed hc hb h₁ h₂, fun hm => ?_, fun hm => ?_⟩
  · have hfwd : motorFwd s.cfg m = s.cfg.motorPair[m.val].2 := if_pos hm
    have hrev : motorRev s.cfg m = s.cfg.motorPair[m.val].1 := if_pos hm
    rw [State.respond_history, State.afterBothWrites_history, ← hfwd, ← hrev]
    rfl
  · have hfwd : motorFwd s.cfg m = s.cfg.motorPair[m.val].1 := if_neg (by omega)
    have hrev : motorRev s.cfg m = s.cfg.motorPair[m.val].2 := if_neg (by omega)
    rw [State.respond_history, State.afterBothWrites_history, ← hfwd, ← hrev]
    rfl

end Sys2Proof.Machine

/-! ## Error kinds, and errors that reach the caller (43_facade.md R206, R207) -/

namespace Sys2Proof.Machine

/-- The unified error kind that an answer of a collaborator is wrapped into, if it is an error (43_facade.md
R206). -/
def Answer.errorKind : Answer → Option ErrorKind
  | .perErr e => some (.peripheralError e)
  | .expErr e => some (.expanderError e)
  | _ => none

/-- Between `s` and `u` no response was given and no call was answered with an error. -/
def NoErrorYet (s u : State) : Prop :=
  u.responses = s.responses ∧
  ∃ evs, u.history = s.history ++ evs ∧ ∀ ev ∈ evs, ev.answer.errorKind = none

/-- The command took `s` to `t` with a status of its own, and the error of any of its calls is its response. -/
def ErrorsSurfaced (i : Instr) (s t : State) : Prop :=
  (∀ r, t.responses = s.responses ++ [r] → r.status ∈ allowedStatus i) ∧
  ∃ evs, t.history = s.history ++ evs ∧
    ∀ ev ∈ evs, ∀ k, ev.answer.errorKind = some k → t.responses = s.responses ++ [encodeResponse (.error k)]

/-- Every command may answer Ok. -/
theorem zero_mem_allowedStatus (i : Instr) : 0 ∈ allowedStatus i := by
  cases i <;> exact List.mem_cons_self

section
variable {i : Instr} {s u v : State}

/-- A state with the same responses and history. -/
theorem NoErrorYet.of_eq (hr : u.responses = s.responses) (hh : u.history = s.history) : NoErrorYet s u :=
  ⟨hr, [], by simp [hh], by simp⟩

/-- One more call, answered without an error. -/
theorem NoErrorYet.call {ev : Event} (h : NoErrorYet s u) (hr : v.responses = u.responses)
    (hh : v.history = u.history ++ [ev]) (hev : ev.answer.errorKind = none) : NoErrorYet s v := by
  obtain ⟨hru, evs, hhu, hevs⟩ := h
  refine ⟨hr.trans hru, evs ++ [ev], by simp [hh, hhu], fun x hx => ?_⟩
  rcases List.mem_append.1 hx with hx | hx
  · exact hevs x hx
  · rwa [List.mem_singleton.1 hx]

/-- Setter calls that all returned. -/
theorem NoErrorYet.afterSetters (xs : List PwmSetting) (h : NoErrorYet s u) :
    NoErrorYet s (u.afterSetters xs) := by
  induction xs generalizing u with
  | nil => exact h
  | cons x xs ih => exact ih (h.call (v := u.afterSetter x .returns) rfl rfl rfl)

/-- A command that ends, after calls without an error, with a status of its own. -/
theorem ErrorsSurfaced.respond (c : Completion) (h : NoErrorYet s u)
    (hc : (encodeResponse c).status ∈ allowedStatus i) : ErrorsSurfaced i s (u.respond c) := by
  obtain ⟨hr, evs, hh, hevs⟩ := h
  refine ⟨fun r hresp => ?_, evs, hh, fun ev hev k hk => ?_⟩
  · have : encodeResponse c = r := by simpa [hr] using hresp
    rwa [← this]
  · simp [hevs ev hev] at hk

/-- A command that ends well. -/
theorem ErrorsSurfaced.respond_ok (h : NoErrorYet s u) : ErrorsSurfaced i s (u.respond .ok) :=
  .respond .ok h (zero_mem_allowedStatus i)

/-- A command that stalls after calls without an error. -/
theorem ErrorsSurfaced.stall (c : Call) (h : NoErrorYet s u) : ErrorsSurfaced i s (u.stall c) := by
  obtain ⟨hr, evs, hh, hevs⟩ := h
  refine ⟨fun r hresp => ?_, evs, hh, fun ev hev k hk => ?_⟩
  · simp [hr] at hresp
  · simp [hevs ev hev] at hk

/-- A command whose last call was answered with the error that it raises. -/
theorem ErrorsSurfaced.raise {ev : Event} (e : LeafError) (h : NoErrorYet s u) (hr : v.responses = u.responses)
    (hh : v.history = u.history ++ [ev]) (hev : ev.answer.errorKind = some (wrapError e))
    (he : (encodeResponse (.error (wrapError e))).status ∈ allowedStatus i) :
    ErrorsSurfaced i s (v.raise e) := by
  obtain ⟨hru, evs, hhu, hevs⟩ := h
  refine ⟨fun r hresp => ?_, evs ++ [ev], by simp [hh, hhu], fun x hx k hk => ?_⟩
  · have : encodeResponse (.error (wrapError e)) = r := by simpa [hr, hru] using hresp
    rwa [← this]
  · rcases List.mem_append.1 hx with hx | hx
    · simp [hevs x hx] at hk
    · have : wrapError e = k := by simpa [List.mem_singleton.1 hx, hev] using hk
      simp [hr, hru, this]

/-- An expander call answered Ok. -/
theorem NoErrorYet.exp_ok (c : ExpCall) (h : NoErrorYet s u) : NoErrorYet s (u.afterExp c .ok) :=
  h.call rfl rfl rfl

/-- An expander call that is never answered hangs the command without a response. -/
theorem ErrorsSurfaced.exp_never (c : ExpCall) (h : NoErrorYet s u) :
    ErrorsSurfaced i s ((u.afterExp c .never).stall (.exp c)) :=
  .stall _ (h.call rfl rfl rfl)

/-- The error of an expander call is the response of a command that may answer ExpanderError. -/
theorem ErrorsSurfaced.exp_err (c : ExpCall) (e : ExpErr) (h : NoErrorYet s u) (hi : 2 ∈ allowedStatus i) :
    ErrorsSurfaced i s ((u.afterExp c (.err e)).raise (.mapper e)) :=
  .raise (.mapper e) h rfl rfl rfl hi

/-- SHOW with its five settings made: no call was answered with an error. -/
theorem NoErrorYet.showConfigured (s : State) :
    NoErrorYet s (s.fillPulse.afterSetters (showSettings s.cfg)) :=
  NoErrorYet.afterSetters _ (.of_eq rfl rfl)

/-- SHOW with its frame loaded: no call was answered with an error. -/
theorem NoErrorYet.showLoaded (s : State) :
    NoErrorYet s (((s.fillPulse.afterSetters (showSettings s.cfg)).setTx .transmitting).afterLoad
      (encodeFrame s.cfg s.store) .ok) :=
  (NoErrorYet.showConfigured s).call rfl rfl rfl

/-- A command that ends in its one step surfaces its errors. -/
theorem exec_errorsSurfaced {t : State} (h : exec i s = .next t) (ht : t.pending = none) :
    ErrorsSurfaced i s t := by
  have start : NoErrorYet s s := .of_eq rfl rfl
  revert ht
  refine exec_elim (P := fun t => t.pending = none → ErrorsSurfaced i s t) h
    ?pix ?bad ?all ?get ?unbound ?showSet ?showErr ?showLoad ?showSplit ?showOk ?servoBad ?servo ?motor ?ini
  case pix => exact fun _ _ _ _ _ _ => .respond_ok (.of_eq rfl rfl)
  case bad =>
    rintro p c rfl - - -
    exact .respond _ start (by simp [encodeResponse, wrapError, allowedStatus])
  case all => exact fun _ _ _ _ => .respond_ok (.of_eq rfl rfl)
  case get =>
    rintro rfl - -
    exact .respond _ start (zero_mem_allowedStatus _)
  case unbound =>
    rintro rfl - - -
    exact .respond _ start (by simp [encodeResponse, wrapError, allowedStatus])
  case showSet =>
    exact fun _ _ _ pre _ _ _ _ =>
      .stall _ ((NoErrorYet.afterSetters pre (u := s.fillPulse) (.of_eq rfl rfl)).call rfl rfl rfl)
  case showErr =>
    rintro rfl - - e -
    rw [State.afterLoadError_eq]
    exact .raise _ (.showConfigured s) rfl rfl rfl (by simp [encodeResponse, wrapError, allowedStatus])
  case showLoad => exact fun _ _ _ _ => .stall _ ((NoErrorYet.showConfigured s).call rfl rfl rfl)
  case showSplit => exact fun _ _ _ _ => .stall _ ((NoErrorYet.showLoaded s).call rfl rfl rfl)
  case showOk => exact fun _ _ _ _ => .respond_ok ((NoErrorYet.showLoaded s).call rfl rfl rfl)
  case servoBad =>
    rintro m d rfl - - -
    exact .respond _ start (by simp [encodeResponse, wrapError, allowedStatus])
  case servo =>
    rintro m d n rfl - - w -
    exact ⟨fun _ => .respond_ok (start.exp_ok _), fun e _ => .exp_err _ e start (by simp [allowedStatus]),
      fun _ => .exp_never _ start⟩
  case motor =>
    rintro m d v rfl - x y - -
    exact ⟨fun hp => by simp at hp, fun e _ => .exp_err _ e start (by simp [allowedStatus]),
      fun _ => .exp_never _ start⟩
  case ini =>
    rintro rfl - x y - -
    have second : NoErrorYet s (s.afterExp x .ok) := start.exp_ok x
    exact ⟨fun _ => .respond_ok (second.call rfl rfl rfl), fun e _ => .exp_err _ e start (by simp [allowedStatus]),
      fun _ => .exp_never _ start, fun e _ => .exp_err _ e second (by simp [allowedStatus]),
      fun _ => .exp_never _ second⟩

/-- The second write of DRIVE_MOTOR surfaces its error. -/
theorem finishDriveMotor_errorsSurfaced (w : ChannelWrite) (hi : 2 ∈ allowedStatus i)
    (h : NoErrorYet s u.takeWrite) : ErrorsSurfaced i s (finishDriveMotor w u) :=
  finishDriveMotor_elim (P := ErrorsSurfaced i s) w u (fun _ => .respond_ok (h.exp_ok _))
    (fun e _ => .exp_err _ e h hi) fun _ => .exp_never _ h

/-- A whole command surfaces its errors: it ends in its one step, or in the second write of DRIVE_MOTOR. -/
theorem execWhole_errorsSurfaced {t : State} (hp : s.pending = none) (h : execWhole i s = .next t) :
    ErrorsSurfaced i s t := by
  refine execWhole_cases (P := ErrorsSurfaced i s) hp h (fun t => exec_errorsSurfaced) ?_
  rintro m d v rfl - -
  exact finishDriveMotor_errorsSurfaced _ (by simp [allowedStatus]) (.call (.of_eq rfl rfl) rfl rfl rfl)

end

/-- Settles O15: every way a command can end surfaces the one error that can have ended it. -/
theorem errorsAreOfTheirKindAndSurfaced : Obligations.ErrorsAreOfTheirKindAndSurfaced := by
  intro i s t hp h
  obtain ⟨hstatus, evs, hhist, hevs⟩ := execWhole_errorsSurfaced hp h
  exact ⟨hstatus, evs, hhist, fun c e hmem => hevs _ hmem (.peripheralError e) rfl,
    fun c e hmem => hevs _ hmem (.expanderError e) rfl⟩

end Sys2Proof.Machine

/-! ## INIT with known answers (43_facade.md R200, R202) -/

namespace Sys2Proof.Machine

section
variable {s : State} {e : ExpErr}

/-- INIT of a block that is not constructed makes its two calls. -/
theorem exec_init (hc : s.constructed = false) :
    exec .init s = .next (callExp (.new s.cfg.expanderAddr) s fun s =>
      callExp (.setPrescale s.cfg.prescale50Hz) s fun s => s.construct.respond .ok) := by
  simp [exec, execInit, hc]

/-- `exp.new` answered Err ends INIT. -/
theorem exec_init_err (hc : s.constructed = false) (h : s.oracle.expReply = .err e) :
    exec .init s = .next ((s.afterExp (.new s.cfg.expanderAddr) (.err e)).raise (.mapper e)) := by
  rw [exec_init hc, callExp_err h]

/-- `exp.set_prescale` answered Err ends INIT after `exp.new` has taken effect. -/
theorem exec_init_ok_err (hc : s.constructed = false) (h₁ : s.oracle.expReply = .ok)
    (h₂ : s.oracle.popExp.expReply = .err e) :
    exec .init s = .next (((s.afterExp (.new s.cfg.expanderAddr) .ok).afterExp
      (.setPrescale s.cfg.prescale50Hz) (.err e)).raise (.mapper e)) := by
  rw [exec_init hc, callExp_ok h₁, callExp_err h₂]
  rfl

/-- Both calls answered Ok construct the block. -/
theorem exec_init_ok_ok (hc : s.constructed = false) (h₁ : s.oracle.expReply = .ok)
    (h₂ : s.oracle.popExp.expReply = .ok) :
    exec .init s = .next (((s.afterExp (.new s.cfg.expanderAddr) .ok).afterExp
      (.setPrescale s.cfg.prescale50Hz) .ok).construct.respond .ok) := by
  rw [exec_init hc, callExp_ok h₁, callExp_ok h₂]
  rfl

/-- An INIT answered well constructs the block and leaves its two events. -/
theorem exec_init_constructs (hc : s.constructed = false) (h₁ : s.oracle.expReply = .ok)
    (h₂ : s.oracle.popExp.expReply = .ok) :
    ∃ u, exec .init s = .next u ∧ u.constructed = true ∧
      u.history = s.history ++
        [⟨.exp (.new s.cfg.expanderAddr), .ok⟩, ⟨.exp (.setPrescale s.cfg.prescale50Hz), .ok⟩] :=
  ⟨_, exec_init_ok_ok hc h₁ h₂, rfl, by simp [expAnswer]⟩

end

/-- Settles O49: either call may fail; both failures leave a block that is not constructed, from which INIT
runs as it would from any other. -/
theorem initFailsAndCanBeRetried : Obligations.InitFailsAndCanBeRetried := by
  rintro s e hc (h | ⟨h₁, h₂⟩)
  · refine ⟨_, exec_init_err hc h, hc, rfl, rfl, rfl, rfl, rfl, rfl, rfl, rfl, rfl, fun _ => rfl,
      fun hok => ?_, exec_init_constructs hc⟩
    simp [h] at hok
  · refine ⟨_, exec_init_ok_err hc h₁ h₂, hc, rfl, rfl, rfl, rfl, rfl, rfl, rfl, rfl, rfl, fun herr => ?_,
      fun _ => ⟨by simp [expAnswer], rfl⟩, exec_init_constructs hc⟩
    simp [h₁] at herr

end Sys2Proof.Machine

/-! ## Refusal in the wrong construction state (43_facade.md R203) -/

namespace Sys2Proof.Machine

/-- Every command but INIT passes through the guard that refuses it before construction. -/
theorem exec_not_constructed {s : State} {i : Instr} (hc : s.constructed = false) (hi : i ≠ .init) :
    exec i s = .refused .notConstructed := by
  cases i with
  | init => exact absurd rfl hi
  | _ => exact whenConstructed_false hc

/-- INIT is refused after construction. -/
theorem exec_init_constructed {s : State} (hc : s.constructed = true) :
    exec .init s = .refused .alreadyConstructed := by
  simp [exec, execInit, hc]

/-- Settles O12, by the guard of the six commands and that of INIT. -/
theorem wrongConstructionStateIsRefused : Obligations.WrongConstructionStateIsRefused :=
  ⟨fun _ _ => exec_not_constructed, fun _ => exec_init_constructed⟩

end Sys2Proof.Machine

/-! ## Reset is the only way back (70_reset_and_hazards.md R260, R261) -/

namespace Sys2Proof.Machine

/-- What only a reset undoes: the block of `t` is constructed, and what `s` had lent is still lent. -/
def KeepsLoan (s t : State) : Prop :=
  t.constructed = true ∧ (s.txState = .transmitting → t.txState = .transmitting)

section
variable {s t : State}

/-- Neither field was written. -/
theorem KeepsLoan.of_eq (hc : s.constructed = true) (hct : t.constructed = s.constructed)
    (htx : t.txState = s.txState) : KeepsLoan s t :=
  ⟨hct.trans hc, htx.trans⟩

/-- Nothing had been lent. -/
theorem KeepsLoan.of_idle (hi : s.txState = .idle) (hct : t.constructed = true) : KeepsLoan s t :=
  ⟨hct, fun ht => by simp [hi] at ht⟩

/-- No command of a constructed block undoes its construction or its loan: INIT is refused there, SHOW
writes `tx_state` only where it was `Idle`, and the others write neither. -/
theorem exec_keepsLoan {i : Instr} (hc : s.constructed = true) (h : exec i s = .next t) : KeepsLoan s t := by
  refine exec_elim (P := KeepsLoan s) h
    ?pix ?bad ?all ?get ?unbound ?showSet ?showErr ?showLoad ?showSplit ?showOk ?servoBad ?servo ?motor ?ini
  case pix => exact fun _ _ _ _ _ => .of_eq hc rfl rfl
  case bad => exact fun _ _ _ _ _ => .of_eq hc rfl rfl
  case all => exact fun _ _ _ => .of_eq hc rfl rfl
  case get => exact fun _ _ => .of_eq hc rfl rfl
  case unbound => exact fun _ _ _ => .of_eq hc rfl rfl
  case showSet => exact fun _ _ hi _ _ _ _ => .of_idle hi (by simpa using hc)
  case showErr => exact fun _ _ hi _ => .of_idle hi (by simpa [State.afterLoadError_eq] using hc)
  case showLoad => exact fun _ _ hi => .of_idle hi (by simpa using hc)
  case showSplit => exact fun _ _ hi => .of_idle hi (by simpa using hc)
  case showOk => exact fun _ _ hi => .of_idle hi (by simpa using hc)
  case servoBad => exact fun _ _ _ _ _ => .of_eq hc rfl rfl
  case servo =>
    exact fun _ _ _ _ _ _ _ _ => ⟨.of_eq hc rfl rfl, fun _ => .of_eq hc rfl rfl, .of_eq hc rfl rfl⟩
  case motor =>
    exact fun _ _ _ _ _ _ _ _ _ => ⟨.of_eq hc rfl rfl, fun _ => .of_eq hc rfl rfl, .of_eq hc rfl rfl⟩
  case ini =>
    intro _ hnot
    simp [hc] at hnot

/-- The second write of DRIVE_MOTOR writes neither field. -/
theorem finishDriveMotor_keepsLoan (w : ChannelWrite) (hc : s.constructed = true) :
    KeepsLoan s (finishDriveMotor w s) :=
  finishDriveMotor_elim (P := KeepsLoan s) w s (fun _ => .of_eq hc rfl rfl) (fun _ _ => .of_eq hc rfl rfl)
    fun _ => .of_eq hc rfl rfl

/-- Of the ways a step can go on, only the reset undoes construction or loan. -/
theorem step_keepsLoan (h : step s = .next t) (hc : s.constructed = true)
    (hreset : ∀ rest, s.inbox ≠ .reset :: rest) : KeepsLoan s t := by
  obtain ⟨-, ⟨w, -, rfl⟩ | ⟨-, -, rfl⟩ | ⟨rest, -, hi, -⟩ | ⟨w, rest, i, -, -, -, hexec⟩⟩ := step_next_cases h
  · exact finishDriveMotor_keepsLoan w hc
  · exact .of_eq hc rfl rfl
  · exact absurd hi (hreset rest)
  · exact exec_keepsLoan (s := s.take rest) hc hexec

/-- A free port with a reset in front of it takes the reset. -/
theorem step_reset {rest : List Input} (hb : s.blocked = none) (hp : s.pending = none)
    (hi : s.inbox = .reset :: rest) : step s = .next (s.take rest).applyReset := by
  simp [step, portOffer, hb, hp, hi]

end

/-- Settles O10: what `applyReset` writes, and the invariant that every other step keeps. -/
theorem resetRestoresTheBlock : Obligations.ResetRestoresTheBlock :=
  ⟨fun _ _ hb hp hi =>
      ⟨_, step_reset hb hp hi, rfl, rfl, rfl, rfl, hb, rfl, rfl, rfl, rfl, rfl⟩,
    fun _ _ _ h hc => exec_keepsLoan hc h, fun _ _ => step_keepsLoan⟩

end Sys2Proof.Machine

/-! ## Reversing a motor, and stopping it first (70_reset_and_hazards.md R275) -/

namespace Sys2Proof.Machine

section
variable {cfg : Config} {m : Fin 4} {d : Direction}

/-- With two different channels in the slot, the driven one is not the idle one. -/
theorem idleChannel_ne_drivenChannel (h : motorFwd cfg m ≠ motorRev cfg m) :
    idleChannel cfg m d ≠ drivenChannel cfg m d := by
  cases d with
  | forward => exact h.symm
  | reverse => exact h

/-- With the duty first, the first write drives the motor. -/
theorem motorFirst_of_dutyComesFirst (v : Nat) (h : dutyComesFirst cfg d) :
    motorFirst cfg m d v = ⟨drivenChannel cfg m d, motorDuty v⟩ := by
  cases d with
  | forward => rfl
  | reverse =>
    have hduty : cfg.reverseWriteOrder = .dutyFirst := by simpa [dutyComesFirst] using h
    simp [motorFirst, hduty, drivenChannel]

/-- With the duty first, the second write zeroes the idle channel. -/
theorem motorSecond_of_dutyComesFirst (v : Nat) (h : dutyComesFirst cfg d) :
    motorSecond cfg m d v = ⟨idleChannel cfg m d, 0⟩ := by
  cases d with
  | forward => rfl
  | reverse =>
    have hduty : cfg.reverseWriteOrder = .dutyFirst := by simpa [dutyComesFirst] using h
    simp [motorSecond, hduty, idleChannel]

/-- In either order the first write gives the driven channel the duty, or zeroes the idle one. -/
theorem motorFirst_cases (cfg : Config) (m : Fin 4) (d : Direction) (v : Nat) :
    motorFirst cfg m d v = ⟨drivenChannel cfg m d, motorDuty v⟩ ∨
      motorFirst cfg m d v = ⟨idleChannel cfg m d, 0⟩ := by
  unfold motorFirst
  split
  · exact .inl rfl
  · exact .inl rfl
  · exact .inr rfl

/-- A speed of 0 makes both writes zero. -/
theorem motor_off_zero (cfg : Config) (m : Fin 4) (d : Direction) :
    (motorFirst cfg m d 0).off = 0 ∧ (motorSecond cfg m d 0).off = 0 := by
  unfold motorFirst motorSecond
  split
  · exact ⟨rfl, rfl⟩
  · exact ⟨rfl, rfl⟩
  · exact ⟨rfl, rfl⟩

/-- A motor that is on has a duty. -/
theorem motorDuty_pos {v : Nat} (h : 0 < v) : 0 < motorDuty v :=
  lt_min (by omega) (by omega)

end

section
variable {s : State} {m : Fin 4}

/-- The written channel reads as the write says. -/
theorem State.afterExp_write_read_same (s : State) (w : ChannelWrite) :
    (s.afterExp w.call .ok).expander.chan.read w.ch = some ⟨0, w.off⟩ :=
  ChannelMap.read_write_same _ _ _

/-- Every other channel reads as before the write. -/
theorem State.afterExp_write_read_other (s : State) {w : ChannelWrite} {ch : Nat} (h : ch ≠ w.ch) :
    (s.afterExp w.call .ok).expander.chan.read ch = s.expander.chan.read ch :=
  ChannelMap.read_write_other _ _ h

/-- Two writes to different channels, both answered Ok, are both in effect. -/
theorem State.afterBothWrites_read (s : State) {x y : ChannelWrite} (h : x.ch ≠ y.ch) :
    (s.afterBothWrites x y .ok).expander.chan.read x.ch = some ⟨0, x.off⟩ ∧
      (s.afterBothWrites x y .ok).expander.chan.read y.ch = some ⟨0, y.off⟩ :=
  ⟨(State.afterExp_write_read_other _ h).trans (s.afterExp_write_read_same x),
    State.afterExp_write_read_same _ y⟩

/-- Stopping a motor leaves both its channels at zero. -/
theorem stopped_reads_zero (d : Direction) (hne : motorFwd s.cfg m ≠ motorRev s.cfg m) :
    (s.afterBothWrites (motorFirst s.cfg m d 0) (motorSecond s.cfg m d 0) .ok).expander.chan.read
        (motorFwd s.cfg m) = some ⟨0, 0⟩ ∧
      (s.afterBothWrites (motorFirst s.cfg m d 0) (motorSecond s.cfg m d 0) .ok).expander.chan.read
        (motorRev s.cfg m) = some ⟨0, 0⟩ := by
  obtain ⟨hfirst, hsecond⟩ := s.afterBothWrites_read (motorFirst_ch_ne_motorSecond_ch d 0 hne)
  obtain ⟨hoff₁, hoff₂⟩ := motor_off_zero s.cfg m d
  rw [hoff₁] at hfirst
  rw [hoff₂] at hsecond
  obtain ⟨hch₁, hch₂⟩ | ⟨hch₁, hch₂⟩ := motorFirst_motorSecond_ch s.cfg m d 0
  · rw [hch₁] at hfirst
    rw [hch₂] at hsecond
    exact ⟨hfirst, hsecond⟩
  · rw [hch₁] at hfirst
    rw [hch₂] at hsecond
    exact ⟨hsecond, hfirst⟩

/-- The first write of a DRIVE_MOTOR leaves an idle channel at zero, whichever channel it goes to. -/
theorem motorFirst_keeps_idle_zero {d : Direction} (v : Nat) (hne : motorFwd s.cfg m ≠ motorRev s.cfg m)
    (h : s.expander.chan.read (idleChannel s.cfg m d) = some ⟨0, 0⟩) :
    (s.afterExp (motorFirst s.cfg m d v).call .ok).expander.chan.read (idleChannel s.cfg m d) =
      some ⟨0, 0⟩ := by
  obtain hw | hw := motorFirst_cases s.cfg m d v
  · rw [hw, State.afterExp_write_read_other s (idleChannel_ne_drivenChannel hne), h]
  · rw [hw]
    exact s.afterExp_write_read_same _

/-- Zero on both channels of the slot is zero on the idle one of either direction. -/
theorem idleChannel_read_zero {d : Direction} {cfg : Config} {chan : ChannelMap}
    (hfwd : chan.read (motorFwd cfg m) = some ⟨0, 0⟩) (hrev : chan.read (motorRev cfg m) = some ⟨0, 0⟩) :
    chan.read (idleChannel cfg m d) = some ⟨0, 0⟩ := by
  cases d with
  | forward => exact hrev
  | reverse => exact hfwd

end

/-- Settles O56: the duty write leaves the other channel on; after a stop that channel is at zero and the
next first write keeps it there. -/
theorem reversalPassesThroughBothChannelsOn : Obligations.ReversalPassesThroughBothChannelsOn := by
  refine ⟨fun s m dir speed off hc hne hduty hspeed _ hok hidle => ?_,
    fun s m dir dir' speed hc hb hne h₁ h₂ h₃ => ?_⟩
  · refine ⟨_, exec_driveMotor_ok m dir speed hc hok, ?_⟩
    rw [motorFirst_of_dutyComesFirst speed hduty, motorSecond_of_dutyComesFirst speed hduty]
    exact ⟨s.afterExp_write_read_same _, motorDuty_pos hspeed,
      (s.afterExp_write_read_other (idleChannel_ne_drivenChannel hne)).trans hidle, rfl, rfl⟩
  · obtain ⟨hfwd, hrev⟩ := stopped_reads_zero dir hne
    refine ⟨_, _, execWhole_driveMotor_ok_ok m dir 0 hc hb h₁ h₂, hfwd, hrev,
      exec_driveMotor_ok m dir' speed hc h₃, ?_⟩
    exact motorFirst_keeps_idle_zero speed hne (idleChannel_read_zero hfwd hrev)

end Sys2Proof.Machine

/-! ## The encoder and the decoder are inverse (30_encoding.md R81 to R84, R96) -/

namespace Sys2Proof

/-- A slice as a quotient and a remainder (00_scope.md R11). -/
theorem slice_eq (w : Word) (hi lo : Nat) : slice w hi lo = w.toNat / 2 ^ lo % 2 ^ (hi - lo + 1) := by
  rw [slice, BitVec.extractLsb_toNat, Nat.shiftRight_eq_div_pow]

/-- A byte of a word as a quotient and a remainder. -/
theorem byteAt_toNat (w : Word) (lo : Nat) : (byteAt w lo).toNat = w.toNat / 2 ^ lo % 256 := by
  rw [byteAt, BitVec.extractLsb'_toNat, Nat.shiftRight_eq_div_pow]

/-- The colour field is the low 24 bits. -/
theorem encodeColour_colourField (w : Word) : encodeColour (colourField w) = w.toNat % 2 ^ 24 := by
  simp only [encodeColour, colourField, byteAt_toNat]
  omega

/-- A word whose low 24 bits are a colour has that colour field. -/
theorem colourField_of_toNat {w : Word} {c : Rgb} (h : w.toNat % 2 ^ 24 = encodeColour c) :
    colourField w = c := by
  obtain ⟨r, g, b⟩ := c
  have hr := r.isLt
  have hg := g.isLt
  have hb := b.isLt
  simp only [encodeColour] at h
  simp only [colourField, Rgb.mk.injEq, BitVec.toNat_eq, byteAt_toNat]
  omega

/-- The direction is read back from its field value. -/
theorem directionOf_directionBit (d : Direction) : directionOf (directionBit d) = d := by
  cases d with
  | forward => rfl
  | reverse => rfl

/-- A field value of one bit is read back from its direction. -/
theorem directionBit_directionOf {f : Nat} (h : f < 2) : directionBit (directionOf f) = f := by
  unfold directionOf
  split
  · simp [directionBit, *]
  · simp only [directionBit]
    omega

/-- The direction's field value is one bit. -/
theorem directionBit_lt (d : Direction) : directionBit d < 2 := by
  cases d with
  | forward => decide
  | reverse => decide

/-- With the reserved bits clear the command is taken. -/
theorem whenClear_zero {opcode reserved : Nat} {i : Instr} (h : reserved = 0) :
    whenClear opcode reserved i = .ok i := if_pos h

/-- A command is taken only with its reserved bits clear. -/
theorem whenClear_ok {opcode reserved : Nat} {i j : Instr} (h : whenClear opcode reserved i = .ok j) :
    reserved = 0 ∧ i = j := by
  unfold whenClear at h
  split at h
  · exact ⟨‹_›, by simpa using h⟩
  · contradiction

/-- Every command a word can decode to: its opcode, its zero bits and its operands. -/
theorem decode_elim {P : Instr → Prop} {w : Word} {i : Instr} (h : decode w = .ok i)
    (init : slice w 31 28 = 1 → slice w 27 0 = 0 → P .init)
    (setPixel : slice w 31 28 = 2 → slice w 27 27 = 0 → P (.setPixel (slice w 26 24) (colourField w)))
    (setAllPixels : slice w 31 28 = 3 → slice w 27 24 = 0 → P (.setAllPixels (colourField w)))
    (showFrame : slice w 31 28 = 4 → slice w 27 0 = 0 → P .showFrame)
    (getColors : slice w 31 28 = 5 → slice w 27 0 = 0 → P .getColors)
    (moveServo : slice w 31 28 = 6 → slice w 27 27 + slice w 23 16 = 0 →
      P (.moveServo (Fin.ofNat 8 (slice w 26 24)) (slice w 15 0)))
    (driveMotor : slice w 31 28 = 7 → slice w 27 26 + slice w 23 9 = 0 →
      P (.driveMotor (Fin.ofNat 4 (slice w 25 24)) (directionOf (slice w 8 8)) (slice w 7 0))) : P i := by
  unfold decode at h
  split at h
  case h_1 hop =>
    obtain ⟨hclear, rfl⟩ := whenClear_ok h
    exact init hop hclear
  case h_2 hop =>
    obtain ⟨hclear, rfl⟩ := whenClear_ok h
    exact setPixel hop hclear
  case h_3 hop =>
    obtain ⟨hclear, rfl⟩ := whenClear_ok h
    exact setAllPixels hop hclear
  case h_4 hop =>
    obtain ⟨hclear, rfl⟩ := whenClear_ok h
    exact showFrame hop hclear
  case h_5 hop =>
    obtain ⟨hclear, rfl⟩ := whenClear_ok h
    exact getColors hop hclear
  case h_6 hop =>
    obtain ⟨hclear, rfl⟩ := whenClear_ok h
    exact moveServo hop hclear
  case h_7 hop =>
    obtain ⟨hclear, rfl⟩ := whenClear_ok h
    exact driveMotor hop hclear
  case h_8 => contradiction

/-! The decoder, one equation per opcode. -/

section
variable {w : Word}

theorem decode_init (h : slice w 31 28 = 1) (hz : slice w 27 0 = 0) : decode w = .ok .init := by
  simp only [decode, h, whenClear_zero hz]

theorem decode_setPixel (h : slice w 31 28 = 2) (hz : slice w 27 27 = 0) :
    decode w = .ok (.setPixel (slice w 26 24) (colourField w)) := by
  simp only [decode, h, whenClear_zero hz]

theorem decode_setAllPixels (h : slice w 31 28 = 3) (hz : slice w 27 24 = 0) :
    decode w = .ok (.setAllPixels (colourField w)) := by
  simp only [decode, h, whenClear_zero hz]

theorem decode_showFrame (h : slice w 31 28 = 4) (hz : slice w 27 0 = 0) : decode w = .ok .showFrame := by
  simp only [decode, h, whenClear_zero hz]

theorem decode_getColors (h : slice w 31 28 = 5) (hz : slice w 27 0 = 0) : decode w = .ok .getColors := by
  simp only [decode, h, whenClear_zero hz]

theorem decode_moveServo (h : slice w 31 28 = 6) (hz : slice w 27 27 + slice w 23 16 = 0) :
    decode w = .ok (.moveServo (Fin.ofNat 8 (slice w 26 24)) (slice w 15 0)) := by
  simp only [decode, h, whenClear_zero hz]

theorem decode_driveMotor (h : slice w 31 28 = 7) (hz : slice w 27 26 + slice w 23 9 = 0) :
    decode w = .ok (.driveMotor (Fin.ofNat 4 (slice w 25 24)) (directionOf (slice w 8 8)) (slice w 7 0)) := by
  simp only [decode, h, whenClear_zero hz]

end

/-- Decoding undoes encoding, for each command by the sum that is its word. -/
theorem decode_encode (i : Instr) (h : i.wf = true) : decode (encode i) = .ok i := by
  cases i with
  | init => exact decode_init rfl rfl
  | setPixel p c =>
    have hp : p < 8 := by simpa [Instr.wf] using h
    have hc := Laws.RowOpcode.encodeColour_lt c
    have hw : (encode (.setPixel p c)).toNat = 0x20000000 + p * 2 ^ 24 + encodeColour c := by
      simp only [encode, BitVec.toNat_ofNat]
      omega
    have hpos : slice (encode (.setPixel p c)) 26 24 = p := by rw [slice_eq, hw]; omega
    rw [decode_setPixel (by rw [slice_eq, hw]; omega) (by rw [slice_eq, hw]; omega), hpos,
      colourField_of_toNat (c := c) (by rw [hw]; omega)]
  | setAllPixels c =>
    have hc := Laws.RowOpcode.encodeColour_lt c
    have hw : (encode (.setAllPixels c)).toNat = 0x30000000 + encodeColour c := by
      simp only [encode, BitVec.toNat_ofNat]
      omega
    rw [decode_setAllPixels (by rw [slice_eq, hw]; omega) (by rw [slice_eq, hw]; omega),
      colourField_of_toNat (c := c) (by rw [hw]; omega)]
  | showFrame => exact decode_showFrame rfl rfl
  | getColors => exact decode_getColors rfl rfl
  | moveServo servo deg =>
    have hd : deg < 65536 := by simpa [Instr.wf] using h
    have hs := servo.isLt
    have hw : (encode (.moveServo servo deg)).toNat = 0x60000000 + servo.val * 2 ^ 24 + deg := by
      simp only [encode, BitVec.toNat_ofNat]
      omega
    have hslot : slice (encode (.moveServo servo deg)) 26 24 = servo.val := by rw [slice_eq, hw]; omega
    have hdeg : slice (encode (.moveServo servo deg)) 15 0 = deg := by rw [slice_eq, hw]; omega
    rw [decode_moveServo (by rw [slice_eq, hw]; omega) (by rw [slice_eq, slice_eq, hw]; omega), hslot, hdeg,
      Fin.ofNat_val_eq_self]
  | driveMotor motor dir speed =>
    have hv : speed < 256 := by simpa [Instr.wf] using h
    have hm := motor.isLt
    have hd := directionBit_lt dir
    have hw : (encode (.driveMotor motor dir speed)).toNat =
        0x70000000 + motor.val * 2 ^ 24 + directionBit dir * 2 ^ 8 + speed := by
      simp only [encode, BitVec.toNat_ofNat]
      omega
    have hslot : slice (encode (.driveMotor motor dir speed)) 25 24 = motor.val := by
      rw [slice_eq, hw]; omega
    have hdir : slice (encode (.driveMotor motor dir speed)) 8 8 = directionBit dir := by
      rw [slice_eq, hw]; omega
    have hspeed : slice (encode (.driveMotor motor dir speed)) 7 0 = speed := by rw [slice_eq, hw]; omega
    rw [decode_driveMotor (by rw [slice_eq, hw]; omega) (by rw [slice_eq, slice_eq, hw]; omega), hslot, hdir,
      hspeed, Fin.ofNat_val_eq_self, directionOf_directionBit]

/-- A decoded command fits its fields, and its word is the word decoded: opcode, zero bits and operands
settle every bit of the word. -/
theorem encode_decode {w : Word} {i : Instr} (h : decode w = .ok i) : i.wf = true ∧ encode i = w := by
  have hw := w.isLt
  have hcolour := encodeColour_colourField w
  have hdir : directionBit (directionOf (slice w 8 8)) = slice w 8 8 :=
    directionBit_directionOf (by rw [slice_eq]; omega)
  refine decode_elim (P := fun i => i.wf = true ∧ encode i = w) h
    ?init ?setPixel ?setAllPixels ?showFrame ?getColors ?moveServo ?driveMotor
  all_goals
    intro hop hclear
    simp only [Instr.wf, decide_eq_true_eq, encode, hcolour, hdir, Fin.val_ofNat, BitVec.toNat_eq,
      BitVec.toNat_ofNat, true_and]
    simp only [slice_eq] at hop hclear ⊢
    omega

/-- Settles O1: every operand of a well-formed command is read back from its own bits of the sum. -/
theorem decodeOfEncode : Obligations.DecodeOfEncode := decode_encode

/-- Settles O2: the operands and the zero bits are all of the word. -/
theorem encodeOfDecode : Obligations.EncodeOfDecode := fun _ _ => encode_decode

/-- Settles O5, by running the decoder on each word. -/
theorem sampleWordsDecode : Obligations.SampleWordsDecode := ⟨rfl, rfl, rfl, rfl, rfl, rfl, rfl⟩

/-- Settles O6: black adds nothing to the word, and the word decodes as that of SET_PIXEL. -/
theorem clearPixelIsSetPixelBlack : Obligations.ClearPixelIsSetPixelBlack :=
  fun p hp => ⟨by simp [Instr.clearPixel, encode, encodeColour, Rgb.black],
    decode_encode (.clearPixel p) (decide_eq_true hp)⟩

/-! ### The rows of the opcode table (30_encoding.md R82) -/

/-- Masking with a block of ones keeps that slice in its place. -/
theorem and_block (n lo k : Nat) : n &&& (2 ^ k - 1) * 2 ^ lo = n / 2 ^ lo % 2 ^ k * 2 ^ lo := by
  rw [← Nat.and_two_pow_sub_one_eq_mod, ← Nat.shiftLeft_eq, ← Nat.shiftLeft_eq, ← Nat.shiftRight_eq_div_pow]
  refine Nat.eq_of_testBit_eq fun j => ?_
  by_cases h : lo ≤ j
  · simp [h, Bool.and_comm]
  · simp [h]

/-- Masking with two blocks of ones that do not overlap keeps both slices. -/
theorem and_two_blocks (n lo k lo' k' : Nat) (h : lo' + k' ≤ lo) :
    n &&& ((2 ^ k - 1) * 2 ^ lo + (2 ^ k' - 1) * 2 ^ lo') =
      n / 2 ^ lo % 2 ^ k * 2 ^ lo + n / 2 ^ lo' % 2 ^ k' * 2 ^ lo' := by
  have low (m : Nat) (hm : m < 2 ^ k') : m * 2 ^ lo' < 2 ^ lo := by
    calc m * 2 ^ lo' < 2 ^ k' * 2 ^ lo' := by gcongr
      _ = 2 ^ (lo' + k') := by rw [Nat.pow_add, mul_comm]
      _ ≤ 2 ^ lo := Nat.pow_le_pow_right (by decide) h
  have hmask := low (2 ^ k' - 1) (Nat.sub_lt (by positivity) (by decide))
  have hslice := low (n / 2 ^ lo' % 2 ^ k') (Nat.mod_lt _ (by positivity))
  rw [mul_comm _ (2 ^ lo), mul_comm _ (2 ^ lo), Nat.two_pow_add_eq_or_of_lt hmask,
    Nat.two_pow_add_eq_or_of_lt hslice, Nat.and_or_distrib_left, mul_comm (2 ^ lo), mul_comm (2 ^ lo),
    and_block, and_block]

section
variable {w mask pattern : Word}

/-- A mask that is one block of ones selects by one slice. -/
theorem and_block_eq_iff (lo k : Nat) (hm : mask.toNat = (2 ^ k - 1) * 2 ^ lo) :
    w &&& mask = pattern ↔ w.toNat / 2 ^ lo % 2 ^ k * 2 ^ lo = pattern.toNat := by
  rw [BitVec.toNat_eq, BitVec.toNat_and, hm, and_block]

/-- A mask that is two blocks of ones selects by two slices. -/
theorem and_two_blocks_eq_iff (lo k lo' k' : Nat) (h : lo' + k' ≤ lo)
    (hm : mask.toNat = (2 ^ k - 1) * 2 ^ lo + (2 ^ k' - 1) * 2 ^ lo') :
    w &&& mask = pattern ↔
      w.toNat / 2 ^ lo % 2 ^ k * 2 ^ lo + w.toNat / 2 ^ lo' % 2 ^ k' * 2 ^ lo' = pattern.toNat := by
  rw [BitVec.toNat_eq, BitVec.toNat_and, hm, and_two_blocks _ _ _ _ _ h]

end

/-! The rows whose mask leaves operand bits free, each by the opcode and the zero bits of its format. -/

section
variable (w : Word)

/-- The rows without operands select one word. -/
theorem selects_whole_iff (p : Word) (opcode : Nat) (hp : p.toNat = opcode * 2 ^ 28) :
    w &&& 0xFFFFFFFF#32 = p ↔ slice w 31 28 = opcode ∧ slice w 27 0 = 0 := by
  have hw := w.isLt
  rw [and_block_eq_iff 0 32 rfl, hp, slice_eq, slice_eq]
  omega

theorem selects_setPixel_iff :
    w &&& 0xF8000000#32 = 0x20000000#32 ↔ slice w 31 28 = 2 ∧ slice w 27 27 = 0 := by
  rw [and_block_eq_iff 27 5 rfl, slice_eq, slice_eq, BitVec.toNat_ofNat]
  omega

theorem selects_setAllPixels_iff :
    w &&& 0xFF000000#32 = 0x30000000#32 ↔ slice w 31 28 = 3 ∧ slice w 27 24 = 0 := by
  rw [and_block_eq_iff 24 8 rfl, slice_eq, slice_eq, BitVec.toNat_ofNat]
  omega

theorem selects_moveServo_iff :
    w &&& 0xF8FF0000#32 = 0x60000000#32 ↔ slice w 31 28 = 6 ∧ slice w 27 27 + slice w 23 16 = 0 := by
  rw [and_two_blocks_eq_iff 27 5 16 8 (by decide) rfl, slice_eq, slice_eq, slice_eq, BitVec.toNat_ofNat]
  omega

theorem selects_driveMotor_iff :
    w &&& 0xFCFFFE00#32 = 0x70000000#32 ↔ slice w 31 28 = 7 ∧ slice w 27 26 + slice w 23 9 = 0 := by
  rw [and_two_blocks_eq_iff 26 6 9 15 (by decide) rfl, slice_eq, slice_eq, slice_eq, BitVec.toNat_ofNat]
  omega

end

/-- The row of a decoded command selects the word. -/
theorem row_selects_of_decode {w : Word} {i : Instr} (h : decode w = .ok i) :
    w &&& (rowOf i).mask = (rowOf i).pattern :=
  decode_elim (P := fun i => w &&& (rowOf i).mask = (rowOf i).pattern) h
    (fun hop hz => (selects_whole_iff w _ 1 rfl).2 ⟨hop, hz⟩) (fun hop hz => (selects_setPixel_iff w).2 ⟨hop, hz⟩)
    (fun hop hz => (selects_setAllPixels_iff w).2 ⟨hop, hz⟩) (fun hop hz => (selects_whole_iff w _ 4 rfl).2 ⟨hop, hz⟩)
    (fun hop hz => (selects_whole_iff w _ 5 rfl).2 ⟨hop, hz⟩) (fun hop hz => (selects_moveServo_iff w).2 ⟨hop, hz⟩)
    (fun hop hz => (selects_driveMotor_iff w).2 ⟨hop, hz⟩)

/-- A word that a row selects decodes to a command of that row. -/
theorem decode_of_row_selects (w : Word) :
    ∀ row ∈ opcodeRows, w &&& row.mask = row.pattern → ∃ i, decode w = .ok i ∧ rowOf i = row := by
  simp only [opcodeRows, List.forall_mem_cons]
  refine ⟨fun h => ?_, fun h => ?_, fun h => ?_, fun h => ?_, fun h => ?_, fun h => ?_, fun h => ?_, by simp⟩
  · obtain ⟨hop, hz⟩ := (selects_whole_iff w _ 1 rfl).1 h
    exact ⟨_, decode_init hop hz, rfl⟩
  · obtain ⟨hop, hz⟩ := (selects_setPixel_iff w).1 h
    exact ⟨_, decode_setPixel hop hz, rfl⟩
  · obtain ⟨hop, hz⟩ := (selects_setAllPixels_iff w).1 h
    exact ⟨_, decode_setAllPixels hop hz, rfl⟩
  · obtain ⟨hop, hz⟩ := (selects_whole_iff w _ 4 rfl).1 h
    exact ⟨_, decode_showFrame hop hz, rfl⟩
  · obtain ⟨hop, hz⟩ := (selects_whole_iff w _ 5 rfl).1 h
    exact ⟨_, decode_getColors hop hz, rfl⟩
  · obtain ⟨hop, hz⟩ := (selects_moveServo_iff w).1 h
    exact ⟨_, decode_moveServo hop hz, rfl⟩
  · obtain ⟨hop, hz⟩ := (selects_driveMotor_iff w).1 h
    exact ⟨_, decode_driveMotor hop hz, rfl⟩

/-- Settles O4: selecting and decoding agree, and since a word decodes to one command, two rows that select
it are one. -/
theorem decodeSelectsTheTableRow : Obligations.DecodeSelectsTheTableRow := by
  refine ⟨fun row hrow w => ⟨?_, decode_of_row_selects w row hrow⟩, fun r₁ h₁ r₂ h₂ w hs₁ hs₂ => ?_⟩
  · rintro ⟨i, hi, rfl⟩
    exact row_selects_of_decode hi
  · obtain ⟨i, hi, rfl⟩ := decode_of_row_selects w r₁ h₁ hs₁
    obtain ⟨j, hj, rfl⟩ := decode_of_row_selects w r₂ h₂ hs₂
    have hij : i = j := by simpa [hi] using hj
    rw [hij]

end Sys2Proof

/-! ## The port (43_facade.md R201, 60_exceptions.md R236) -/

namespace Sys2Proof.Machine

section
variable {s : State}

/-- A hung block faults at anything but a reset. -/
theorem step_hung_fault {c : Call} (hb : s.blocked = some c) (hi : ∀ rest, s.inbox ≠ .reset :: rest) :
    step s = .fault (.stalled c) := by
  unfold step portOffer
  rw [hb]
  cases h : s.inbox with
  | nil => rfl
  | cons x rest =>
    cases x with
    | command w => rfl
    | reset => exact absurd h (hi rest)

/-- A hung block refuses a reset. -/
theorem step_hung_reset {c : Call} {rest : List Input} (hb : s.blocked = some c)
    (hi : s.inbox = .reset :: rest) : step s = .refused .resetDuringCommand := by
  simp [step, portOffer, hb, hi]

/-- A free port with nothing in front of it waits. -/
theorem step_idle (hb : s.blocked = none) (hp : s.pending = none) (hi : s.inbox = []) : step s = .next s := by
  simp [step, portOffer, hb, hp, hi]

end

/-- Settles O7: the port offers the word, and the word decodes. -/
theorem stepRunsDecodedCommand : Obligations.StepRunsDecodedCommand :=
  fun _ _ _ _ => step_command

/-- Settles O8: whatever is in front of a hung port, its step stops. -/
theorem stalledPortAcceptsNothing : Obligations.StalledPortAcceptsNothing :=
  fun _ _ hb => ⟨step_hung hb, step_hung_fault hb, fun _ => step_hung_reset hb⟩

/-- Settles O9: the port has nothing to offer. -/
theorem idlePortWaits : Obligations.IdlePortWaits := fun _ => step_idle

/-- Settles O13: the guard lets the command through, and MOVE_SERVO's domain check never fails. -/
theorem acceptedCommandsAnswerNext : Obligations.AcceptedCommandsAnswerNext := by
  intro i s h
  cases i with
  | init => exact ⟨_, exec_init (h.1 rfl)⟩
  | moveServo servo deg =>
    have hc : s.constructed = true := by simpa using h
    exact ⟨_, by rw [exec, execMoveServo, whenConstructed_true hc, servoTick_eq]⟩
  | _ =>
    have hc : s.constructed = true := by simpa using h
    exact ⟨_, whenConstructed_true hc⟩

end Sys2Proof.Machine

/-! ## The state after power-on (10_state.md R36) -/

namespace Sys2Proof.Machine

/-- The machine at hand meets the side conditions, whatever its parameters: what must differ are images of
different points under a permutation. -/
theorem board_valid : Config.board.Valid := by
  refine ⟨?_, ⟨Nat.le_of_lt_succ Config.boardHighT0H.isLt, Nat.le_of_lt_succ Config.boardHighT1H.isLt⟩,
    ⟨Nat.succ_pos _, Nat.succ_pos _⟩, fun m => ?_⟩
  · simp [Config.board]
  · simp [Config.board]

/-- Settles O11: the values as written down, and the side conditions of the configuration. -/
theorem resetStateIsAsSpecified : Obligations.ResetStateIsAsSpecified :=
  ⟨rfl, rfl, rfl, rfl, rfl, rfl, rfl, board_valid⟩

/-- Settles O55: nothing has happened yet, and the configuration is valid. -/
theorem resetMeetsTheInvariants : Obligations.ResetMeetsTheInvariants := by
  refine ⟨⟨?_, ?_⟩, ⟨?_, ?_⟩, ?_, ⟨Expander.unknown_wf, ?_⟩, board_valid, ?_, ?_⟩
  · simp [State.reset]
  · simp [State.reset]
  · simp [State.reset]
  · simp [State.reset]
  · intro h
    simp [State.reset] at h
  · simp [State.reset, lastWrite]
  · simp [State.reset, Pwm.unknown]
  · simp [State.reset, Pwm.unknown]

end Sys2Proof.Machine

/-! ## INIT answered well, answered badly and never answered (43_facade.md R200, R202) -/

namespace Sys2Proof.Machine

section
variable {s : State}

/-- `exp.new` never answered hangs INIT. -/
theorem exec_init_never (hc : s.constructed = false) (h : s.oracle.expReply = .never) :
    exec .init s = .next ((s.afterExp (.new s.cfg.expanderAddr) .never).stall
      (.exp (.new s.cfg.expanderAddr))) := by
  rw [exec_init hc, callExp_never h]

/-- `exp.set_prescale` never answered hangs INIT after `exp.new` has taken effect. -/
theorem exec_init_ok_never (hc : s.constructed = false) (h₁ : s.oracle.expReply = .ok)
    (h₂ : s.oracle.popExp.expReply = .never) :
    exec .init s = .next (((s.afterExp (.new s.cfg.expanderAddr) .ok).afterExp
      (.setPrescale s.cfg.prescale50Hz) .never).stall (.exp (.setPrescale s.cfg.prescale50Hz))) := by
  rw [exec_init hc, callExp_ok h₁, callExp_never h₂]
  rfl

/-- Two expander calls leave their two events, in their order. -/
theorem State.afterExp_two_history (s : State) (c d : ExpCall) (r : Reply ExpErr) :
    ((s.afterExp c .ok).afterExp d r).history = s.history ++ [⟨.exp c, .ok⟩, ⟨.exp d, expAnswer r⟩] := by
  simp [expAnswer]

end

/-- Settles O48: two calls answered Ok, then the block's own writes. -/
theorem initConstructsTheBlock : Obligations.InitConstructsTheBlock := by
  intro s hc h₁ h₂
  rw [exec_init_ok_ok hc h₁ h₂, State.construct, State.respond]
  simp only [State.afterExp_two_history]
  rfl

/-- Settles O60: neither call of INIT touches the channels, and a failed one forgets what it would have
set. -/
theorem failedInitAndTheChipsShadow : Obligations.FailedInitAndTheChipsShadow := by
  rintro s e hc (h | ⟨h₁, h₂⟩)
  · exact ⟨_, exec_init_err hc h, rfl, rfl, fun _ => rfl⟩
  · refine ⟨_, exec_init_ok_err hc h₁ h₂, rfl, rfl, fun h => ?_⟩
    simp [h₁] at h

end Sys2Proof.Machine

/-! ## MOVE_SERVO and DRIVE_MOTOR with known answers (42_channel_mapper.md R176, R182) -/

namespace Sys2Proof.Machine

/-- The one write of MOVE_SERVO: the tick of the formula, to the slot's channel. -/
def servoWrite (cfg : Config) (servo : Fin 8) (deg : Nat) : ChannelWrite :=
  ⟨cfg.servoCh[servo.val], ((min deg 270 * 180 / 270) * 10 + 600) * 4096 / 20000⟩

section
variable {s : State} {e : ExpErr}

/-- MOVE_SERVO at a constructed block is its one write. -/
theorem exec_moveServo (servo : Fin 8) (deg : Nat) (hc : s.constructed = true) :
    exec (.moveServo servo deg) s =
      .next (callExp (servoWrite s.cfg servo deg).call s fun s => s.respond .ok) := by
  rw [exec, execMoveServo, whenConstructed_true hc, servoTick_eq]
  rfl

/-- DRIVE_MOTOR at a constructed block is its first write, after which it keeps its second. -/
theorem exec_driveMotor (m : Fin 4) (d : Direction) (v : Nat) (hc : s.constructed = true) :
    exec (.driveMotor m d v) s =
      .next (callExp (motorFirst s.cfg m d v).call s fun u => u.holdWrite (motorSecond u.cfg m d v)) :=
  whenConstructed_true hc

/-- A write answered Ok is in the shadow, and no other channel changed. -/
theorem chan_write_reads (chan : ChannelMap) (w : ChannelWrite) :
    (chan.write w.ch ⟨0, w.off⟩).read w.ch = some ⟨0, w.off⟩ ∧
      ∀ ch, ch ≠ w.ch → (chan.write w.ch ⟨0, w.off⟩).read ch = chan.read ch :=
  ⟨ChannelMap.read_write_same _ _ _, fun _ h => ChannelMap.read_write_other _ _ h⟩

end

/-- Settles O41: the one write is of the formula's tick, and its shadow is a write of one channel. -/
theorem moveServoWritesItsTick : Obligations.MoveServoWritesItsTick := by
  intro s servo deg hc h
  obtain ⟨hsame, hother⟩ := chan_write_reads s.expander.chan (servoWrite s.cfg servo deg)
  refine ⟨_, hsame, hother, ?_⟩
  rw [exec_moveServo servo deg hc, callExp_ok h]
  rfl

/-- Settles O42: the one write failed, and its shadow forgets one channel. -/
theorem moveServoReportsAWriteError : Obligations.MoveServoReportsAWriteError := by
  intro s servo deg e hc h
  refine ⟨s.expander.chan.forget (servoWrite s.cfg servo deg).ch, ChannelMap.read_forget_same _ _,
    fun _ hch => ChannelMap.read_forget_other _ hch, ?_⟩
  rw [exec_moveServo servo deg hc, callExp_err h]
  rfl

/-- Settles O57, by the three answers of the second write. -/
theorem runningMotorCommandMakesItsSecondWrite : Obligations.RunningMotorCommandMakesItsSecondWrite := by
  intro s w hb hp
  rw [step_running hb hp]
  refine ⟨fun h => ?_, fun e h => ?_, fun h => ?_⟩
  · rw [finishDriveMotor_ok w h]
    rfl
  · rw [finishDriveMotor_err w h]
    rfl
  · rw [finishDriveMotor_never w h]
    rfl

/-- What the two channels of a slot carry once both writes are in effect: the duty where the direction
drives, zero on the other (42_channel_mapper.md R182). -/
theorem State.afterBothWrites_motor_read (s : State) (m : Fin 4) (d : Direction) (v : Nat)
    (hne : motorFwd s.cfg m ≠ motorRev s.cfg m) :
    (s.afterBothWrites (motorFirst s.cfg m d v) (motorSecond s.cfg m d v) .ok).expander.chan.read
        (motorFwd s.cfg m) = some ⟨0, match d with | .forward => motorDuty v | .reverse => 0⟩ ∧
      (s.afterBothWrites (motorFirst s.cfg m d v) (motorSecond s.cfg m d v) .ok).expander.chan.read
        (motorRev s.cfg m) = some ⟨0, match d with | .forward => 0 | .reverse => motorDuty v⟩ := by
  obtain ⟨hfirst, hsecond⟩ := s.afterBothWrites_read (motorFirst_ch_ne_motorSecond_ch d v hne)
  unfold motorFirst motorSecond at *
  cases d with
  | forward => exact ⟨hfirst, hsecond⟩
  | reverse =>
    cases ho : s.cfg.reverseWriteOrder with
    | dutyFirst =>
      simp only [ho] at hfirst hsecond ⊢
      exact ⟨hsecond, hfirst⟩
    | zeroFirst =>
      simp only [ho] at hfirst hsecond ⊢
      exact ⟨hfirst, hsecond⟩

/-- Two writes leave every channel of neither as it was. -/
theorem State.afterBothWrites_read_other (s : State) {x y : ChannelWrite} {ch : Nat} (hx : ch ≠ x.ch)
    (hy : ch ≠ y.ch) :
    (s.afterBothWrites x y .ok).expander.chan.read ch = s.expander.chan.read ch :=
  (State.afterExp_write_read_other _ hy).trans (s.afterExp_write_read_other hx)

/-- Settles O43: the state between the writes, and the state after both. -/
theorem driveMotorWritesBothChannels : Obligations.DriveMotorWritesBothChannels := by
  intro s m dir speed hc h₁ h₂
  obtain ⟨hsame, hother⟩ := chan_write_reads s.expander.chan (motorFirst s.cfg m dir speed)
  refine ⟨_, (s.afterBothWrites (motorFirst s.cfg m dir speed) (motorSecond s.cfg m dir speed) .ok).expander.chan,
    hsame, hother, fun ch hfwd hrev => ?_, s.afterBothWrites_motor_read m dir speed,
    exec_driveMotor_ok m dir speed hc h₁, fun hb => ?_⟩
  · obtain ⟨hch₁, hch₂⟩ | ⟨hch₁, hch₂⟩ := motorFirst_motorSecond_ch s.cfg m dir speed
    · exact s.afterBothWrites_read_other (hch₁ ▸ hfwd) (hch₂ ▸ hrev)
    · exact s.afterBothWrites_read_other (hch₁ ▸ hrev) (hch₂ ▸ hfwd)
  · rw [execWhole_driveMotor_ok_ok m dir speed hc hb h₁ h₂, State.respond]
    simp only [State.afterBothWrites_history]
    cases dir with
    | forward => rfl
    | reverse =>
      simp only [motorFirst, motorSecond]
      cases s.cfg.reverseWriteOrder with
      | dutyFirst => rfl
      | zeroFirst => rfl

end Sys2Proof.Machine

/-! ## Expander calls that are never answered (00_scope.md R15) -/

namespace Sys2Proof.Machine

section
variable {i : Instr} {s t : State}

/-- A command that leaves no second write ends with its one step. -/
theorem execWhole_of_exec (h : exec i s = .next t) (hp : t.pending = none) : execWhole i s = .next t := by
  simp only [execWhole, h, hp]

/-- A write of MOVE_SERVO never answered hangs it. -/
theorem exec_moveServo_never (servo : Fin 8) (deg : Nat) (hc : s.constructed = true)
    (h : s.oracle.expReply = .never) :
    exec (.moveServo servo deg) s =
      .next ((s.afterExp (servoWrite s.cfg servo deg).call .never).stall
        (.exp (servoWrite s.cfg servo deg).call)) := by
  rw [exec_moveServo servo deg hc, callExp_never h]

/-- A first write of DRIVE_MOTOR never answered hangs it. -/
theorem exec_driveMotor_never (m : Fin 4) (d : Direction) (v : Nat) (hc : s.constructed = true)
    (h : s.oracle.expReply = .never) :
    exec (.driveMotor m d v) s =
      .next ((s.afterExp (motorFirst s.cfg m d v).call .never).stall
        (.exp (motorFirst s.cfg m d v).call)) := by
  rw [exec_driveMotor m d v hc, callExp_never h]

/-- A second write of DRIVE_MOTOR never answered hangs it after the first has taken effect. -/
theorem execWhole_driveMotor_ok_never (m : Fin 4) (d : Direction) (v : Nat) (hc : s.constructed = true)
    (hb : s.blocked = none) (h₁ : s.oracle.expReply = .ok) (h₂ : s.oracle.popExp.expReply = .never) :
    execWhole (.driveMotor m d v) s =
      .next ((s.afterBothWrites (motorFirst s.cfg m d v) (motorSecond s.cfg m d v) .never).stall
        (.exp (motorSecond s.cfg m d v).call)) := by
  rw [execWhole_driveMotor_ok m d v hc hb h₁, finishDriveMotor_never _ h₂]
  rfl

end

/-- Settles O47: the hang follows the first call of each of the three commands. -/
theorem firstExpanderCallStalls : Obligations.FirstExpanderCallStalls := by
  rintro i s (⟨rfl, hc⟩ | ⟨hc, ⟨servo, deg, rfl⟩ | ⟨m, d, v, rfl⟩⟩) h
  · exact ⟨_, _, exec_init_never hc h, rfl, rfl, rfl, rfl, rfl, rfl, rfl, rfl, rfl, fun _ => step_hung rfl⟩
  · exact ⟨_, _, exec_moveServo_never servo deg hc h, rfl, rfl, rfl, rfl, rfl, rfl, rfl, rfl, rfl,
      fun _ => step_hung rfl⟩
  · exact ⟨_, _, exec_driveMotor_never m d v hc h, rfl, rfl, rfl, rfl, rfl, rfl, rfl, rfl, rfl,
      fun _ => step_hung rfl⟩

/-- Settles O58: what the first call did stays, the second leaves what it would have set unknown. -/
theorem secondExpanderCallStalls : Obligations.SecondExpanderCallStalls := by
  rintro i s hb hp h₁ h₂ (⟨rfl, hc⟩ | ⟨hc, m, d, v, rfl⟩)
  · exact ⟨_, _, _, execWhole_of_exec (exec_init_ok_never hc h₁ h₂) hp, rfl, State.afterExp_two_history _ _ _ _,
      rfl, hp, rfl, rfl, rfl, rfl, rfl, rfl, fun _ => rfl, by simp, fun _ => step_hung rfl⟩
  · refine ⟨_, .exp (motorFirst s.cfg m d v).call, .exp (motorSecond s.cfg m d v).call,
      execWhole_driveMotor_ok_never m d v hc hb h₁ h₂, rfl, State.afterBothWrites_history _ _ _ _,
      rfl, rfl, rfl, rfl, rfl, rfl, rfl, rfl, by simp, ?_, fun _ => step_hung rfl⟩
    rintro m d v ⟨rfl, rfl, rfl⟩
    refine ⟨ChannelMap.read_forget_same _ _, fun hne => ?_⟩
    exact (ChannelMap.read_forget_other _ (motorFirst_ch_ne_motorSecond_ch d v hne)).trans
      (s.afterExp_write_read_same _)

end Sys2Proof.Machine

/-! ## What each command leaves unchanged (10_state.md section 8)

Each command's row of the access matrix as one equation: the state after it is the state before with the
elements of the row replaced. -/

namespace Sys2Proof.Machine

section
variable {s t : State}

/-- SET_PIXEL writes the bytes of its position and responds. -/
theorem exec_setPixel_frame {p : Nat} {c : Rgb} (h : exec (.setPixel p c) s = .next t) :
    t = { s with store := t.store, responses := t.responses } ∧
      ∀ k : Fin 15, k.val / 3 ≠ p → t.store[k.val] = s.store[k.val] := by
  obtain ⟨-, h⟩ := whenConstructed_next h
  cases h
  split
  case isTrue hp => exact ⟨rfl, fun k hk => writePixel_get_other s.store ⟨p, hp⟩ c k.val k.isLt hk⟩
  case isFalse => exact ⟨rfl, fun _ _ => rfl⟩

/-- SET_ALL_PIXELS writes the store and responds. -/
theorem exec_setAllPixels_frame {c : Rgb} (h : exec (.setAllPixels c) s = .next t) :
    t = { s with store := t.store, responses := t.responses } := by
  obtain ⟨-, h⟩ := whenConstructed_next h
  cases h
  rfl

/-- GET_COLORS only responds. -/
theorem exec_getColors_frame (h : exec .getColors s = .next t) : t = { s with responses := t.responses } := by
  obtain ⟨-, h⟩ := whenConstructed_next h
  cases h
  rfl

/-- The state past the guard of SHOW differs from the one before in nothing but what SHOW writes. -/
def ShowFrame (s t : State) : Prop :=
  t = { s with
    pulse := t.pulse, txState := t.txState, history := t.history, responses := t.responses
    blocked := t.blocked, pwm := t.pwm, oracle := t.oracle }

/-- SHOW writes the Pulse Buffer, `tx_state` and the peripheral. -/
theorem exec_showFrame_frame (h : exec .showFrame s = .next t) : ShowFrame s t := by
  obtain ⟨-, h⟩ := whenConstructed_next h
  cases h
  split
  case h_1 => rfl
  case h_2 =>
    apply show_elim (P := ShowFrame s)
    case herr =>
      intro e
      rw [State.afterLoadError_eq, State.afterSetters_eq]
      rfl
    case hset =>
      intro pre x post _
      rw [State.afterSetters_eq]
      rfl
    all_goals
      rw [State.afterSetters_eq]
      rfl

/-- The state differs from the one before in nothing but what a channel write and the end of its command
change. -/
def MapperFrame (s t : State) : Prop :=
  t = { s with
    pending := t.pending, history := t.history, responses := t.responses, blocked := t.blocked
    expander := { s.expander with chan := t.expander.chan }, oracle := t.oracle }

theorem MapperFrame.cfg (h : MapperFrame s t) : t.cfg = s.cfg := by rw [h]

theorem MapperFrame.inbox (h : MapperFrame s t) : t.inbox = s.inbox := by rw [h]

theorem MapperFrame.store (h : MapperFrame s t) : t.store = s.store := by rw [h]

/-- MOVE_SERVO writes the expander's channels only, and leaves no second write. -/
theorem exec_moveServo_frame {m : Fin 8} {d : Nat} (h : exec (.moveServo m d) s = .next t) :
    MapperFrame s t ∧ t.pending = s.pending := by
  rw [exec_moveServo m d (whenConstructed_next h).1] at h
  cases h
  exact callExp_elim (P := fun t => MapperFrame s t ∧ t.pending = s.pending) _ _ _
    (fun _ => ⟨rfl, rfl⟩) (fun _ _ => ⟨rfl, rfl⟩) fun _ => ⟨rfl, rfl⟩

/-- DRIVE_MOTOR writes the expander's channels and the second write to be made. -/
theorem exec_driveMotor_frame {m : Fin 4} {d : Direction} {v : Nat}
    (h : exec (.driveMotor m d v) s = .next t) : MapperFrame s t := by
  obtain ⟨-, h⟩ := whenConstructed_next h
  cases h
  exact callExp_elim (P := MapperFrame s) _ _ _ (fun _ => rfl) (fun _ _ => rfl) fun _ => rfl

/-- The second write of DRIVE_MOTOR writes the expander's channels, and none is left. -/
theorem finishDriveMotor_frame (w : ChannelWrite) (s : State) :
    MapperFrame s (finishDriveMotor w s) ∧ (finishDriveMotor w s).pending = none :=
  finishDriveMotor_elim (P := fun t => MapperFrame s t ∧ t.pending = none) w s
    (fun _ => ⟨rfl, rfl⟩) (fun _ _ => ⟨rfl, rfl⟩) fun _ => ⟨rfl, rfl⟩

/-- INIT writes the store, `tx_state`, `constructed` and the expander. -/
theorem exec_init_frame (h : exec .init s = .next t) :
    t = { s with
      store := t.store, txState := t.txState, constructed := t.constructed, history := t.history
      responses := t.responses, blocked := t.blocked, expander := t.expander, oracle := t.oracle } := by
  refine exec_elim (P := fun t => t = { s with
      store := t.store, txState := t.txState, constructed := t.constructed, history := t.history
      responses := t.responses, blocked := t.blocked, expander := t.expander, oracle := t.oracle }) h
    ?pix ?bad ?all ?get ?unbound ?showSet ?showErr ?showLoad ?showSplit ?showOk ?servoBad ?servo ?motor ?ini
  case ini => exact fun _ _ _ _ _ _ => ⟨rfl, fun _ => rfl, rfl, fun _ => rfl, rfl⟩
  all_goals (intros; contradiction)

end

/-- The clauses of the access matrix for one command. -/
def WritesOnlyItsRow (i : Instr) (s t : State) : Prop :=
  (i ≠ .init → t.constructed = s.constructed) ∧
  (∀ k : Fin 15, i ≠ .init → (∀ c, i ≠ .setAllPixels c) →
    (∀ p c, i = .setPixel p c → k.val / 3 ≠ p) → t.store[k.val] = s.store[k.val]) ∧
  (i ≠ .showFrame → t.pulse = s.pulse ∧ t.pwm = s.pwm) ∧
  (i ≠ .showFrame → i ≠ .init → t.txState = s.txState) ∧
  ((∀ p c, i ≠ .setPixel p c) ∧ (∀ c, i ≠ .setAllPixels c) ∧ i ≠ .getColors ∧ i ≠ .showFrame ∨
    t.expander = s.expander) ∧
  ((∀ m d v, i ≠ .driveMotor m d v) → t.pending = s.pending) ∧
  t.inbox = s.inbox ∧ t.cfg = s.cfg

/-- Every command keeps to its row: each clause is one field of the command's equation. -/
theorem exec_writesOnlyItsRow {i : Instr} {s t : State} (h : exec i s = .next t) : WritesOnlyItsRow i s t := by
  unfold WritesOnlyItsRow
  cases i with
  | init =>
    rw [exec_init_frame h]
    simp
  | setPixel p c =>
    obtain ⟨ht, hstore⟩ := exec_setPixel_frame h
    refine ⟨?_, fun k _ _ hk => hstore k (hk p c rfl), ?_⟩
    · rw [ht]
      simp
    · rw [ht]
      simp
  | setAllPixels c =>
    rw [exec_setAllPixels_frame h]
    simp
  | showFrame =>
    rw [exec_showFrame_frame h]
    simp
  | getColors =>
    rw [exec_getColors_frame h]
    simp
  | moveServo m d =>
    obtain ⟨ht, hp⟩ := exec_moveServo_frame h
    rw [hp, ht]
    simp
  | driveMotor m d v =>
    rw [exec_driveMotor_frame h]
    simp

/-- No command takes an input. -/
theorem exec_inbox {i : Instr} {s t : State} (h : exec i s = .next t) : t.inbox = s.inbox := by
  obtain ⟨-, -, -, -, -, -, hinbox, -⟩ := exec_writesOnlyItsRow h
  exact hinbox

/-- No command writes the configuration. -/
theorem exec_cfg {i : Instr} {s t : State} (h : exec i s = .next t) : t.cfg = s.cfg := by
  obtain ⟨-, -, -, -, -, -, -, hcfg⟩ := exec_writesOnlyItsRow h
  exact hcfg

/-- Settles O17: the rows of the matrix, and the row of the second write. -/
theorem commandsWriteOnlyTheirState : Obligations.CommandsWriteOnlyTheirState := by
  refine ⟨fun _ _ _ => exec_writesOnlyItsRow, fun s t hp h => ?_⟩
  obtain ⟨-, ⟨w, -, rfl⟩ | ⟨hp', -⟩ | ⟨_, hp', -⟩ | ⟨_, _, _, hp', -⟩⟩ := step_next_cases h
  · obtain ⟨hframe, hnone⟩ := finishDriveMotor_frame w s
    rw [← hnone]
    exact hframe
  all_goals exact absurd hp' hp

/-- Settles O16, by the ways a step can go on. -/
theorem configurationIsNeverWritten : Obligations.ConfigurationIsNeverWritten := by
  intro s t h
  obtain ⟨-, ⟨w, -, rfl⟩ | ⟨-, -, rfl⟩ | ⟨rest, -, -, rfl⟩ | ⟨w, rest, i, -, -, -, hexec⟩⟩ := step_next_cases h
  · exact (finishDriveMotor_frame w s).1.cfg
  · rfl
  · rfl
  · exact exec_cfg (s := s.take rest) hexec

end Sys2Proof.Machine

/-! ## Runs of commands without a reset (60_exceptions.md R230) -/

namespace Sys2Proof.Machine

/-- What every step keeps, every run keeps. -/
theorem run_invariant {P : State → Prop} (hstep : ∀ s t, P s → step s = .next t → P t) (n : Nat) {s t : State}
    (hs : P s) (h : Host.Core.run Sys2Proof.core n s = .next t) : P t := by
  induction n generalizing s with
  | zero =>
    cases h
    exact hs
  | succ n ih =>
    simp only [Host.Core.run] at h
    split at h
    · exact ih (hstep _ _ hs ‹_›) h
    · contradiction
    · contradiction

/-- A step takes at most the first input. -/
theorem step_inbox {s t : State} (h : step s = .next t) :
    t.inbox = s.inbox ∨ ∃ x, s.inbox = x :: t.inbox := by
  obtain ⟨-, ⟨w, -, rfl⟩ | ⟨-, -, rfl⟩ | ⟨rest, -, hi, rfl⟩ | ⟨w, rest, i, -, hi, -, hexec⟩⟩ := step_next_cases h
  · exact .inl (finishDriveMotor_frame w s).1.inbox
  · exact .inl rfl
  · exact .inr ⟨_, hi⟩
  · exact .inr ⟨_, hi.trans (by rw [exec_inbox hexec]; rfl)⟩

/-- The host offers command words of a kind only, and no reset. -/
def OffersOnly (P : Word → Prop) (s : State) : Prop := ∃ ws : List Word, s.inbox = ws.map .command ∧ ∀ w ∈ ws, P w

section
variable {P : Word → Prop} {s t : State}

/-- No reset is in front of the port. -/
theorem OffersOnly.no_reset (h : OffersOnly P s) (rest : List Input) : s.inbox ≠ .reset :: rest := by
  obtain ⟨ws, hi, -⟩ := h
  cases ws <;> simp [hi]

/-- The word in front of the port is of the kind. -/
theorem OffersOnly.head {w : Word} {rest : List Input} (h : OffersOnly P s) (hi : s.inbox = .command w :: rest) :
    P w := by
  obtain ⟨ws, hws, hP⟩ := h
  refine hP w ?_
  have hmem : Input.command w ∈ ws.map Input.command := by rw [← hws, hi]; exact List.mem_cons_self
  simpa using hmem

/-- What the host offers after a step it offered before it. -/
theorem OffersOnly.step (h : OffersOnly P s) (hstep : step s = .next t) : OffersOnly P t := by
  obtain ⟨ws, hi, hP⟩ := h
  obtain hkeep | ⟨x, htake⟩ := step_inbox hstep
  · exact ⟨ws, hkeep.trans hi, hP⟩
  · cases ws with
    | nil => simp [hi] at htake
    | cons w ws =>
      rw [hi, List.map_cons, List.cons.injEq] at htake
      exact ⟨ws, htake.2.symm, fun w' hw' => hP w' (List.mem_cons_of_mem _ hw')⟩

end

/-- The block is constructed, its transmitter is lent, and the host offers no reset. -/
def TransmitterLost (s : State) : Prop :=
  s.constructed = true ∧ s.txState = .transmitting ∧ OffersOnly (fun _ => True) s

/-- Only a reset undoes the loan, and none comes. -/
theorem step_keeps_transmitterLost (s t : State) (hs : TransmitterLost s) (h : step s = .next t) :
    TransmitterLost t := by
  obtain ⟨hc, htx, hoffer⟩ := hs
  obtain ⟨hct, hloan⟩ := step_keepsLoan h hc hoffer.no_reset
  exact ⟨hct, hloan htx, hoffer.step h⟩

/-- Settles O37: a lost transmitter is kept by every step, so by every run. -/
theorem lostTransmitterStaysLost : Obligations.LostTransmitterStaysLost := by
  intro n s t ws hc htx hi h
  obtain ⟨hct, htxt, -⟩ :=
    run_invariant step_keeps_transmitterLost n ⟨hc, htx, ws, hi, fun _ _ => trivial⟩ h
  exact ⟨hct, htxt, exec_showFrame_transmitting hct htxt⟩

end Sys2Proof.Machine

/-! ## The frame as an encoding and as a waveform (41_show.md sections 2 and 5) -/

namespace Sys2Proof.Machine

section
variable {cfg : Config}

/-- Two frames with the same 96 bit codes are the same: the rest is terminators. -/
theorem encodeFrame_ext {a b : Vector Byte 15}
    (h : ∀ k (hk : k < 96), (encodeFrame cfg a)[k] = (encodeFrame cfg b)[k]) :
    encodeFrame cfg a = encodeFrame cfg b := by
  refine Vector.ext fun k hk => ?_
  obtain hlt | rfl | rfl : k < 96 ∨ k = 96 ∨ k = 97 := by omega
  · exact h k hlt
  · rw [encodeFrame_96, encodeFrame_96]
  · rw [encodeFrame_97, encodeFrame_97]

/-- The frame reads the first twelve bytes only. -/
theorem encodeFrame_congr (cfg : Config) {a b : Vector Byte 15} (h : ∀ k : Fin 12, a[k.val] = b[k.val]) :
    encodeFrame cfg a = encodeFrame cfg b := by
  refine encodeFrame_ext fun k hk => ?_
  have hbyte : a[k / 8] = b[k / 8] := h ⟨k / 8, by omega⟩
  rw [encodeFrame_get cfg a k hk, encodeFrame_get cfg b k hk, hbyte]

/-- With one code for both bits the frame says nothing. -/
theorem encodeFrame_of_codes_eq (hcode : cfg.t0h = cfg.t1h) (a b : Vector Byte 15) :
    encodeFrame cfg a = encodeFrame cfg b := by
  have hbit : ∀ x, bitCode cfg x = cfg.t1h := fun x => by simp [bitCode, hcode]
  exact encodeFrame_ext fun k hk => by rw [encodeFrame_get cfg a k hk, encodeFrame_get cfg b k hk, hbit, hbit]

/-- With two codes a bit is read back from its code. -/
theorem bitCode_inj (hcode : cfg.t0h ≠ cfg.t1h) {x y : Bool} (h : bitCode cfg x = bitCode cfg y) : x = y := by
  cases x with
  | false =>
    cases y with
    | false => rfl
    | true => exact absurd h hcode
  | true =>
    cases y with
    | false => exact absurd h.symm hcode
    | true => rfl

/-- With two codes the twelve bytes are read back from the frame. -/
theorem byte_of_encodeFrame_eq (hcode : cfg.t0h ≠ cfg.t1h) {a b : Vector Byte 15}
    (h : encodeFrame cfg a = encodeFrame cfg b) (k : Fin 12) : a[k.val] = b[k.val] := by
  refine BitVec.eq_of_getLsbD_eq fun j hj => bitCode_inj hcode ?_
  have hentry : (encodeFrame cfg a)[8 * k.val + (7 - j)] = (encodeFrame cfg b)[8 * k.val + (7 - j)] := by
    simp only [h]
  have hbyte : (8 * k.val + (7 - j)) / 8 = k.val := by omega
  have hbit : 7 - (8 * k.val + (7 - j)) % 8 = j := by omega
  rw [encodeFrame_get cfg a _ (by omega), encodeFrame_get cfg b _ (by omega)] at hentry
  simpa only [hbyte, hbit] using hentry

/-- Every entry before the terminators is one of the two bit codes. -/
theorem encodeFrame_bit (cfg : Config) (store : Vector Byte 15) (k : Nat) (hk : k < 96) :
    (encodeFrame cfg store)[k] = cfg.t0h ∨ (encodeFrame cfg store)[k] = cfg.t1h := by
  rw [encodeFrame_get cfg store k hk, bitCode]
  split
  · exact .inr rfl
  · exact .inl rfl

/-- A frame has the shape that `pwm.load` is given (41_show.md R149 (c)). -/
theorem encodeFrame_shaped (cfg : Config) (store : Vector Byte 15) :
    FrameShaped cfg (encodeFrame cfg store) :=
  ⟨fun k => encodeFrame_bit cfg store k.val k.isLt, encodeFrame_96 cfg store, encodeFrame_97 cfg store⟩

/-- A bit's high time is its code's. -/
theorem bitPeriod_bitCode (hv : cfg.Valid) (x : Bool) :
    bitPeriod cfg (bitCode cfg x) =
      if x then ⟨cfg.highT1H, 20 - cfg.highT1H⟩ else ⟨cfg.highT0H, 20 - cfg.highT0H⟩ := by
  obtain ⟨⟨h01, h0t, h1t⟩, -⟩ := hv
  cases x with
  | false => simp [bitPeriod, bitCode, highTicks, h01, h0t]
  | true => simp [bitPeriod, bitCode, highTicks, h1t]

/-- The terminator's period is low throughout. -/
theorem bitPeriod_term (cfg : Config) : bitPeriod cfg cfg.term = ⟨0, 20⟩ := by
  simp [bitPeriod, highTicks]

/-- Under a valid configuration no code is high for longer than a period. -/
theorem bitPeriod_ticks (hv : cfg.Valid) (c : Code) :
    (bitPeriod cfg c).high + (bitPeriod cfg c).low = 20 := by
  obtain ⟨-, ⟨h0, h1⟩, -⟩ := hv
  have hhigh : highTicks cfg c ≤ 20 := by
    unfold highTicks
    split_ifs
    · exact Nat.zero_le _
    · exact h1
    · exact h0
  simp only [bitPeriod]
  omega

/-- Every period of a buffer on the line lasts 20 ticks. -/
theorem framePeriods_ticks (hv : cfg.Valid) {buf : Vector Code 98} {x : BitPeriod}
    (hx : x ∈ framePeriods cfg buf) : x.high + x.low = 20 := by
  obtain ⟨c, -, rfl⟩ := List.mem_map.1 hx
  exact bitPeriod_ticks hv c

/-- Entry `k` of a buffer is period `k` on the line. -/
theorem framePeriods_get? (cfg : Config) (buf : Vector Code 98) (k : Nat) (hk : k < 98) :
    (framePeriods cfg buf)[k]? = some (bitPeriod cfg buf[k]) := by
  simp [framePeriods, hk]

/-- A buffer is 98 periods. -/
@[simp] theorem framePeriods_length (cfg : Config) (buf : Vector Code 98) :
    (framePeriods cfg buf).length = 98 := by
  simp [framePeriods]

/-- A stretch of 20-tick periods lasts 20 ticks a period. -/
theorem wireTicks_of_ticks {l : List BitPeriod} (h : ∀ x ∈ l, x.high + x.low = 20) :
    wireTicks l = l.length * 20 := by
  rw [wireTicks, List.map_congr_left h, List.map_const', List.sum_replicate, smul_eq_mul]

end

/-- Settles O30: the bytes are read back from the codes when these differ, and cannot be when they do
not. -/
theorem frameTellsTheStoresApart : Obligations.FrameTellsTheStoresApart :=
  ⟨fun cfg _ _ hcode => ⟨byte_of_encodeFrame_eq hcode, encodeFrame_congr cfg⟩,
    fun _ a b hcode => encodeFrame_of_codes_eq hcode a b⟩

/-- Settles O31: every other entry is a bit code, which is not the terminator. -/
theorem terminatorsStandApart : Obligations.TerminatorsStandApart := by
  rintro cfg store ⟨⟨-, h0t, h1t⟩, -⟩
  refine ⟨encodeFrame_96 cfg store, encodeFrame_97 cfg store, fun k => ?_⟩
  obtain hk | hk := encodeFrame_bit cfg store k.val k.isLt
  · rwa [hk]
  · rwa [hk]

/-- Settles O32: each period is that of its code. -/
theorem frameWaveform : Obligations.FrameWaveform := by
  intro cfg store hv
  refine ⟨framePeriods_length _ _, fun i j => ?_, ?_, ?_⟩
  · have hbyte : (8 * i.val + j.val) / 8 = i.val := by omega
    have hbit : (8 * i.val + j.val) % 8 = j.val := by omega
    rw [framePeriods_get? _ _ _ (by omega), encodeFrame_get cfg store _ (by omega), bitPeriod_bitCode hv]
    simp only [hbyte, hbit]
    exact apply_ite some _ _ _
  · have h96 := framePeriods_get? cfg (encodeFrame cfg store) 96 (by omega)
    have h97 := framePeriods_get? cfg (encodeFrame cfg store) 97 (by omega)
    rw [encodeFrame_96, bitPeriod_term] at h96
    rw [encodeFrame_97, bitPeriod_term] at h97
    obtain ⟨hlt96, h96⟩ := List.getElem?_eq_some_iff.1 h96
    obtain ⟨hlt97, h97⟩ := List.getElem?_eq_some_iff.1 h97
    rw [List.drop_eq_getElem_cons hlt96, List.drop_eq_getElem_cons hlt97, h96, h97,
      List.drop_of_length_le (by simp)]
  · rw [wireTicks_of_ticks fun _ => framePeriods_ticks hv, framePeriods_length]

end Sys2Proof.Machine

/-! ## SHOW with known answers (41_show.md R131, R137 to R142) -/

namespace Sys2Proof.Machine

/-- Setter calls of which one never returns stop there. -/
theorem callSetters_never (pre : List PwmSetting) (x : PwmSetting) (post : List PwmSetting) (s : State)
    (k : State → State) (h : ∀ n < pre.length, (Oracle.popSetter^[n] s.oracle).setterReply = .returns)
    (hnever : (Oracle.popSetter^[pre.length] s.oracle).setterReply = .never) :
    callSetters (pre ++ x :: post) s k =
      ((s.afterSetters pre).afterSetter x .never).stall (.pwmSet x) := by
  induction pre generalizing s with
  | nil =>
    have h0 : s.oracle.setterReply = .never := hnever
    simp [callSetters, callSetter, h0, State.afterSetters]
  | cons y pre ih =>
    have h0 : s.oracle.setterReply = .returns := h 0 (by simp)
    rw [List.cons_append, callSetters, callSetter_returns h0]
    exact ih _ (fun n hn => h (n + 1) (by simpa using hn)) hnever

/-- Settings do not touch the line or the loan. -/
theorem Pwm.foldl_apply_line (xs : List PwmSetting) (p : Pwm) :
    (xs.foldl (fun p x => p.apply x) p).wire = p.wire ∧
      (xs.foldl (fun p x => p.apply x) p).inFlight = p.inFlight := by
  induction xs generalizing p with
  | nil => exact ⟨rfl, rfl⟩
  | cons x xs ih =>
    obtain ⟨hwire, hloan⟩ := ih (p.apply x)
    rw [List.foldl_cons, hwire, hloan]
    cases x <;> exact ⟨rfl, rfl⟩

/-- A setting that never returns does not touch the line or the loan. -/
theorem Pwm.forget_line (x : PwmSetting) (p : Pwm) :
    (p.forget x).wire = p.wire ∧ (p.forget x).inFlight = p.inFlight := by
  cases x <;> exact ⟨rfl, rfl⟩

/-- SHOW past its guard with its five settings made, about to load. -/
def State.configured (s : State) : State :=
  (s.fillPulse.afterSetters (showSettings s.cfg)).setTx .transmitting

@[simp] theorem State.configured_oracle (s : State) :
    s.configured.oracle = Oracle.popSetter^[5] s.oracle := by
  rw [State.configured, State.afterSetters_eq]
  rfl

/-- The events of SHOW's five settings. -/
def settingEvents (cfg : Config) : List Event := (showSettings cfg).map fun x => ⟨.pwmSet x, .returned⟩

/-- Configuring in the terms of the state before. -/
theorem State.configured_eq (s : State) :
    s.configured = { s with
      pulse := encodeFrame s.cfg s.store
      txState := .transmitting
      history := s.history ++ settingEvents s.cfg
      pwm :=
        { s.pwm with
          counterMode := some .up, prescaler := some s.cfg.pwmPrescaler, maxDuty := some 20
          loopMode := some .disabled, loadMode := some .common }
      oracle := Oracle.popSetter^[5] s.oracle } := by
  rw [State.configured, State.afterSetters_eq]
  rfl

section
variable {s : State} (hc : s.constructed = true) (hi : s.txState = .idle)
include hc hi

/-- SHOW past its guard. -/
theorem exec_showFrame_idle :
    exec .showFrame s = .next (callSetters (showSettings s.cfg) s.fillPulse transmit) := by
  rw [exec, execShow, whenConstructed_true hc, hi]

/-- With every setter returning SHOW comes to its load. -/
theorem exec_showFrame_configured (hset : ∀ k < 5, (Oracle.popSetter^[k] s.oracle).setterReply = .returns) :
    exec .showFrame s = .next (callLoad (encodeFrame s.cfg s.store) s.configured State.afterLoadError fun s =>
      callSplit s fun s => (s.setTx .idle).respond .ok) := by
  rw [exec_showFrame_idle hc hi, callSetters_returns (showSettings s.cfg) s.fillPulse transmit hset, transmit,
    State.afterSetters_pulse]
  rfl

/-- SHOW whose setter `x` never returns, after those before it did. -/
theorem exec_showFrame_setter_never {pre post : List PwmSetting} {x : PwmSetting}
    (hx : showSettings s.cfg = pre ++ x :: post)
    (hset : ∀ k < pre.length, (Oracle.popSetter^[k] s.oracle).setterReply = .returns)
    (hnever : (Oracle.popSetter^[pre.length] s.oracle).setterReply = .never) :
    exec .showFrame s =
      .next (((s.fillPulse.afterSetters pre).afterSetter x .never).stall (.pwmSet x)) := by
  rw [exec_showFrame_idle hc hi, hx, callSetters_never pre x post s.fillPulse transmit hset hnever]

end

/-- Settles O33: settings, load, wait and reclaim, one after another. -/
theorem showSendsTheFrame : Obligations.ShowSendsTheFrame := by
  intro s hc hi hset hload hsplit
  rw [exec_showFrame_configured hc hi hset, callLoad_ok (by simpa using hload),
    callSplit_returns (by simpa using hsplit), State.configured_eq]
  simp [hi, State.afterLoad, State.afterSplit, State.setTx, State.respond, Pwm.afterLoad, Pwm.afterSplit,
    Pwm.inFlightPeriods, settingEvents, showSettings, loadAnswer, returnAnswer, encodeResponse]

/-- Settles O34: how many periods reach the line is the free value of the load's call. -/
theorem showReportsALoadError : Obligations.ShowReportsALoadError := by
  intro s e hc hi hset hload
  refine ⟨Config.freeSent s.configured.oracle.calls, ?_⟩
  rw [exec_showFrame_configured hc hi hset, callLoad_err (by simpa using hload), State.afterLoadError_eq,
    State.configured_eq]
  simp [State.afterLoad, State.setTx, State.raise, State.respond, Pwm.afterLoad, settingEvents, showSettings,
    loadAnswer, encodeResponse, wrapError]

/-- Settles O36: the load, or the wait after it, hangs the configured block. -/
theorem showThatStallsHangsTheBlock : Obligations.ShowThatStallsHangsTheBlock := by
  rintro s hc hi hset (hload | ⟨hload, hsplit⟩)
  · rw [exec_showFrame_configured hc hi hset, callLoad_never (by simpa using hload), State.configured_eq]
    exact ⟨_, rfl, rfl, rfl, rfl, rfl, fun _ => step_hung rfl⟩
  · rw [exec_showFrame_configured hc hi hset, callLoad_ok (by simpa using hload),
      callSplit_never (by simpa using hsplit), State.configured_eq]
    exact ⟨_, rfl, rfl, rfl, rfl, rfl, fun _ => step_hung rfl⟩

/-- SHOW in Idle plans its five settings, the load and the wait. -/
theorem plannedCalls_showFrame_idle {s : State} (hi : s.txState = .idle) :
    plannedCalls s .showFrame = (showSettings s.cfg).map .pwmSet ++
      [.pwmLoad (encodeFrame s.cfg s.store) none true, .pwmWaitAndSplit] := by
  simp only [plannedCalls, hi]
  rfl

/-- Settles O59: the settings before the hung one are made, and nothing is loaded. -/
theorem setterThatNeverReturnsHangsShow : Obligations.SetterThatNeverReturnsHangsShow := by
  intro s n hc hi hn hset hnever
  have hlen : n < (showSettings s.cfg).length := hn
  have hsplit : showSettings s.cfg =
      (showSettings s.cfg).take n ++ (showSettings s.cfg)[n] :: (showSettings s.cfg).drop (n + 1) := by
    rw [← List.drop_eq_getElem_cons hlen, List.take_append_drop]
  have hpre : ((showSettings s.cfg).take n).length = n := by
    rw [List.length_take]
    omega
  have hplan : (plannedCalls s .showFrame).take (n + 1) =
      ((showSettings s.cfg).take n).map .pwmSet ++ [.pwmSet (showSettings s.cfg)[n]] := by
    rw [plannedCalls_showFrame_idle hi, List.take_append_of_le_length (by rw [List.length_map]; omega),
      ← List.map_take, List.take_succ_eq_append_getElem hlen, List.map_append, List.map_singleton]
  obtain ⟨hwire, hloan⟩ := Pwm.foldl_apply_line ((showSettings s.cfg).take n) s.pwm
  obtain ⟨hwire', hloan'⟩ := Pwm.forget_line (showSettings s.cfg)[n]
    (((showSettings s.cfg).take n).foldl (fun p x => p.apply x) s.pwm)
  refine ⟨_, (showSettings s.cfg)[n], exec_showFrame_setter_never hc hi hsplit (by rwa [hpre]) (by rwa [hpre]),
    List.getElem?_eq_getElem hlen, ?_, ?_, rfl, ?_, ?_, ?_, ?_, ?_, ?_, fun _ => step_hung rfl⟩
  · rw [hplan]
    simp [Function.comp_def]
  · simp [returnAnswer]
  · simp
  · simpa using hi
  · simp
  · simp
  · simpa [Pwm.afterSetter] using hwire'.trans hwire
  · simpa [Pwm.afterSetter] using hloan'.trans hloan

end Sys2Proof.Machine

/-! ## Relations that a step respects

Two runs are compared by a relation between their states.  If the relation keeps what decides how a command
goes on, and every update that commands share keeps the relation, then the commands keep it too. -/

namespace Sys2Proof.Machine

/-- The states agree on everything that decides which way a step goes on. -/
structure SameControl (s t : State) : Prop where
  cfg : t.cfg = s.cfg
  constructed : t.constructed = s.constructed
  blocked : t.blocked = s.blocked
  pending : t.pending = s.pending
  inbox : t.inbox = s.inbox
  oracle : t.oracle = s.oracle

/-- The updates of the state that commands share: those of the collaborator calls, of the end of a command
and of the port. -/
inductive SharedUpdate : (State → State) → Prop
  | respond (c : Completion) : SharedUpdate fun s => s.respond c
  | stall (c : Call) : SharedUpdate fun s => s.stall c
  | afterSetter (x : PwmSetting) (r : Return) : SharedUpdate fun s => s.afterSetter x r
  | afterLoad (buf : Vector Code 98) (r : Reply PerErr) : SharedUpdate fun s => s.afterLoad buf r
  | afterSplit (r : Return) : SharedUpdate fun s => s.afterSplit r
  | afterExp (c : ExpCall) (r : Reply ExpErr) : SharedUpdate fun s => s.afterExp c r
  | holdWrite (w : ChannelWrite) : SharedUpdate fun s => s.holdWrite w
  | takeWrite : SharedUpdate State.takeWrite
  | take (rest : List Input) : SharedUpdate fun s => s.take rest

/-- Related states go the same way, and the shared updates keep them related. -/
structure Respected (R : State → State → Prop) : Prop where
  control : ∀ {s t}, R s t → SameControl s t
  update : ∀ {s t f}, SharedUpdate f → R s t → R (f s) (f t)

/-- So does SHOW past its guard: the updates of `tx_state` keep the relation too, and the Pulse Buffers
agree. -/
structure RespectedByShow (R : State → State → Prop) : Prop extends Respected R where
  setTx : ∀ {s t} (x : TxState), R s t → R (s.setTx x) (t.setTx x)
  pulse : ∀ {s t}, R s t → t.pulse = s.pulse

section
variable {R : State → State → Prop} {s t : State}

theorem Respected.raise (hR : Respected R) (e : LeafError) (h : R s t) : R (s.raise e) (t.raise e) :=
  hR.update (.respond _) h

/-- Refused in both states, or run in both. -/
theorem SameControl.whenConstructed_related {r r' : Result} (h : SameControl s t) (hr : OutcomesRelated R r r') :
    OutcomesRelated R (whenConstructed s r) (whenConstructed t r') := by
  unfold whenConstructed
  rw [h.constructed]
  split
  · exact hr
  · rfl

/-- An expander call is answered alike in both states. -/
theorem Respected.callExp_related (hR : Respected R) (c : ExpCall) {k k' : State → State}
    (hk : ∀ {s t}, R s t → R (k s) (k' t)) (h : R s t) : R (callExp c s k) (callExp c t k') := by
  unfold callExp
  rw [(hR.control h).oracle]
  split
  · exact hk (hR.update (.afterExp c _) h)
  · exact hR.raise _ (hR.update (.afterExp c _) h)
  · exact hR.update (.stall _) (hR.update (.afterExp c _) h)

/-- Setter calls are answered alike in both states. -/
theorem Respected.callSetters_related (hR : Respected R) (xs : List PwmSetting) {k k' : State → State}
    (hk : ∀ {s t}, R s t → R (k s) (k' t)) (h : R s t) : R (callSetters xs s k) (callSetters xs t k') := by
  induction xs generalizing s t with
  | nil => exact hk h
  | cons x xs ih =>
    simp only [callSetters, callSetter]
    rw [(hR.control h).oracle]
    split
    · exact ih (hR.update (.afterSetter x _) h)
    · exact hR.update (.stall _) (hR.update (.afterSetter x _) h)

/-- The wait ends alike in both states. -/
theorem Respected.callSplit_related (hR : Respected R) {k k' : State → State}
    (hk : ∀ {s t}, R s t → R (k s) (k' t)) (h : R s t) : R (callSplit s k) (callSplit t k') := by
  unfold callSplit
  rw [(hR.control h).oracle]
  split
  · exact hk (hR.update (.afterSplit _) h)
  · exact hR.update (.stall _) (hR.update (.afterSplit _) h)

/-- The load, the wait and what follows them go alike in both states. -/
theorem RespectedByShow.transmit_related (hR : RespectedByShow R) (h : R s t) : R (transmit s) (transmit t) := by
  have htx : R (s.setTx .transmitting) (t.setTx .transmitting) := hR.setTx _ h
  unfold transmit callLoad
  rw [(hR.control htx).oracle, hR.pulse h]
  split
  case h_1 =>
    exact hR.callSplit_related (fun h => hR.update (.respond _) (hR.setTx _ h))
      (hR.update (.afterLoad s.pulse .ok) htx)
  case h_2 e _ =>
    have hload := hR.update (.afterLoad s.pulse (.err e)) htx
    refine hR.raise _ ?_
    unfold State.afterLoadError
    rw [(hR.control hload).cfg]
    split
    · exact hR.setTx _ hload
    · exact hload
  case h_3 => exact hR.update (.stall _) (hR.update (.afterLoad s.pulse .never) htx)

/-- SHOW past its guard goes alike from states that are related once the frame is filled. -/
theorem RespectedByShow.past_guard (hR : RespectedByShow R) (h : R s.fillPulse t.fillPulse) :
    R (callSetters (showSettings s.cfg) s.fillPulse transmit)
      (callSetters (showSettings t.cfg) t.fillPulse transmit) := by
  have hcfg : t.cfg = s.cfg := (hR.control h).cfg
  rw [hcfg]
  exact hR.callSetters_related _ hR.transmit_related h

/-- SHOW with the same `tx_state`: raised at the guard in both states, or past it in both. -/
theorem SameControl.show_related (h : SameControl s t) (htx : t.txState = s.txState)
    (hguard : R (s.raise .pwmIsUnbound) (t.raise .pwmIsUnbound))
    (hpast : R (callSetters (showSettings s.cfg) s.fillPulse transmit)
      (callSetters (showSettings t.cfg) t.fillPulse transmit)) :
    OutcomesRelated R (exec .showFrame s) (exec .showFrame t) := by
  refine h.whenConstructed_related ?_
  rw [htx]
  cases s.txState with
  | idle => exact hpast
  | transmitting => exact hguard

/-- INIT, for a relation that the construction keeps. -/
theorem Respected.init_related (hR : Respected R) (hcons : ∀ {s t}, R s t → R s.construct t.construct)
    (h : R s t) : OutcomesRelated R (exec .init s) (exec .init t) := by
  have hctl := hR.control h
  simp only [exec, execInit, hctl.constructed, hctl.cfg]
  split
  · rfl
  · refine hR.callExp_related _ (fun {s t} h => ?_) h
    rw [(hR.control h).cfg]
    exact hR.callExp_related _ (fun h => hR.update (.respond _) (hcons h)) h

/-- MOVE_SERVO. -/
theorem Respected.moveServo_related (hR : Respected R) (m : Fin 8) (d : Nat) (h : R s t) :
    OutcomesRelated R (exec (.moveServo m d) s) (exec (.moveServo m d) t) := by
  have hctl := hR.control h
  simp only [exec, execMoveServo, servoTick_eq, hctl.cfg]
  exact hctl.whenConstructed_related (hR.callExp_related _ (fun h => hR.update (.respond _) h) h)

/-- DRIVE_MOTOR up to its second write. -/
theorem Respected.driveMotor_related (hR : Respected R) (m : Fin 4) (d : Direction) (v : Nat) (h : R s t) :
    OutcomesRelated R (exec (.driveMotor m d v) s) (exec (.driveMotor m d v) t) := by
  have hctl := hR.control h
  simp only [exec, execDriveMotor, hctl.cfg]
  refine hctl.whenConstructed_related (hR.callExp_related _ (fun {s t} h => ?_) h)
  rw [(hR.control h).cfg]
  exact hR.update (.holdWrite _) h

/-- The second write of DRIVE_MOTOR. -/
theorem Respected.finishDriveMotor_related (hR : Respected R) (w : ChannelWrite) (h : R s t) :
    R (finishDriveMotor w s) (finishDriveMotor w t) :=
  hR.callExp_related _ (fun h => hR.update (.respond _) h) (hR.update .takeWrite h)

/-- A step takes the same branch in both states; between the two writes of DRIVE_MOTOR nothing else is
asked of the relation. -/
theorem Respected.step_related (hR : Respected R) (h : R s t)
    (hreset : s.pending = none → ∀ rest, R (s.take rest).applyReset (t.take rest).applyReset)
    (hexec : s.pending = none → ∀ i rest, OutcomesRelated R (exec i (s.take rest)) (exec i (t.take rest))) :
    OutcomesRelated R (step s) (step t) := by
  have hctl := hR.control h
  unfold step portOffer
  rw [hctl.blocked, hctl.pending, hctl.inbox]
  cases s.blocked with
  | some c =>
    cases s.inbox with
    | nil => rfl
    | cons x rest =>
      cases x with
      | command w => rfl
      | reset => rfl
  | none =>
    cases hp : s.pending with
    | some w => exact hR.finishDriveMotor_related w h
    | none =>
      cases s.inbox with
      | nil => exact h
      | cons x rest =>
        cases x with
        | reset => exact hreset hp rest
        | command w =>
          simp only [runWord]
          split
          · exact hexec hp _ rest
          · rfl

/-- A command that goes alike in its first step goes alike to its end. -/
theorem Respected.execWhole_related (hR : Respected R) {i : Instr}
    (h : OutcomesRelated R (exec i s) (exec i t)) : OutcomesRelated R (execWhole i s) (execWhole i t) := by
  unfold execWhole
  cases hs : exec i s with
  | next s' =>
    cases ht : exec i t with
    | next t' =>
      rw [hs, ht] at h
      have hR' : R s' t' := h
      simp only [(hR.control hR').pending]
      cases hp : s'.pending with
      | none => exact h
      | some w => exact hR.step_related hR' (by simp [hp]) (by simp [hp])
    | fault f => simp [hs, ht, OutcomesRelated] at h
    | refused r => simp [hs, ht, OutcomesRelated] at h
  | fault f =>
    cases ht : exec i t with
    | fault f' => simpa [hs, ht] using h
    | next t' => simp [hs, ht, OutcomesRelated] at h
    | refused r => simp [hs, ht, OutcomesRelated] at h
  | refused r =>
    cases ht : exec i t with
    | refused r' => simpa [hs, ht] using h
    | next t' => simp [hs, ht, OutcomesRelated] at h
    | fault f => simp [hs, ht, OutcomesRelated] at h

end

/-! ### The pixel store commands in one form -/

/-- The commands that touch only the Pixel Color Store. -/
def IsPixelCommand (i : Instr) : Prop :=
  (∃ p c, i = .setPixel p c) ∨ (∃ c, i = .setAllPixels c) ∨ i = .getColors

/-- The store that a pixel store command leaves. -/
def storeAfter : Instr → Vector Byte 15 → Vector Byte 15
  | .setPixel p c, store => if h : p < 5 then writePixel store ⟨p, h⟩ c else store
  | .setAllPixels c, store => writeAllPixels store c
  | _, store => store

/-- How a pixel store command completes. -/
def pixelCompletion : Instr → Vector Byte 15 → Completion
  | .setPixel p _, _ => if p < 5 then .ok else .error .invalidPixelPosition
  | .getColors, store => .colours (readColours store)
  | _, _ => .ok

/-- A pixel store command at a constructed block replaces the store and responds. -/
theorem exec_pixel {i : Instr} (hi : IsPixelCommand i) (s : State) :
    exec i s = whenConstructed s (.next ({ s with store := storeAfter i s.store }.respond
      (pixelCompletion i s.store))) := by
  obtain ⟨p, c, rfl⟩ | ⟨c, rfl⟩ | rfl := hi
  · rw [exec, execSetPixel, storeAfter, pixelCompletion]
    split
    · rfl
    · rfl
  · rfl
  · rfl

/-- A pixel store command run to its end is its one step. -/
theorem execWhole_pixel {i : Instr} {s t : State} (hi : IsPixelCommand i) (hp : s.pending = none)
    (h : execWhole i s = .next t) :
    t = { s with store := storeAfter i s.store }.respond (pixelCompletion i s.store) := by
  obtain hc | hc := Bool.eq_false_or_eq_true s.constructed
  · rw [execWhole_of_exec ((exec_pixel hi s).trans (whenConstructed_true hc)) hp] at h
    exact (Host.Outcome.next.inj h).symm
  · rw [execWhole, (exec_pixel hi s).trans (whenConstructed_false hc)] at h
    contradiction

/-- So do the pixel store commands: both states answer alike, and their new stores keep the relation. -/
structure RespectedByPixels (R : State → State → Prop) : Prop extends Respected R where
  store : ∀ {s t} (i : Instr), R s t →
    R { s with store := storeAfter i s.store } { t with store := storeAfter i t.store }
  completion : ∀ {s t} (i : Instr), R s t → pixelCompletion i t.store = pixelCompletion i s.store

section
variable {R : State → State → Prop} {s t : State} {i : Instr}

theorem RespectedByPixels.pixel_related (hR : RespectedByPixels R) (hi : IsPixelCommand i) (h : R s t) :
    OutcomesRelated R (exec i s) (exec i t) := by
  rw [exec_pixel hi, exec_pixel hi, hR.completion i h]
  exact (hR.control h).whenConstructed_related (hR.update (.respond _) (hR.store i h))

/-- Every command but SHOW and INIT goes alike. -/
theorem RespectedByPixels.exec_related (hR : RespectedByPixels R) (hshow : i ≠ .showFrame) (hinit : i ≠ .init)
    (h : R s t) : OutcomesRelated R (exec i s) (exec i t) := by
  cases i with
  | init => exact absurd rfl hinit
  | showFrame => exact absurd rfl hshow
  | setPixel p c => exact hR.pixel_related (.inl ⟨p, c, rfl⟩) h
  | setAllPixels c => exact hR.pixel_related (.inr (.inl ⟨c, rfl⟩)) h
  | getColors => exact hR.pixel_related (.inr (.inr rfl)) h
  | moveServo m d => exact hR.moveServo_related m d h
  | driveMotor m d v => exact hR.driveMotor_related m d v h

end

end Sys2Proof.Machine

/-! ## `tx_state` is read by SHOW only (92_eei_decisions.md D17) -/

namespace Sys2Proof.Machine

/-- The states differ at most in `tx_state`, which is `x` in the second. -/
def SameButTx (x : TxState) (s t : State) : Prop := t = { s with txState := x }

theorem sameButTx_respected (x : TxState) : RespectedByPixels (SameButTx x) where
  control := by
    rintro s _ rfl
    exact ⟨rfl, rfl, rfl, rfl, rfl, rfl⟩
  update := by
    rintro s _ f hf rfl
    cases hf <;> rfl
  store := by
    rintro s _ i rfl
    rfl
  completion := by
    rintro s _ i rfl
    rfl

/-- Settles O27: `tx_state` decides nothing in the other commands, and they carry it through. -/
theorem onlyShowReadsTxState : Obligations.OnlyShowReadsTxState :=
  fun _ _ x hshow hinit => (sameButTx_respected x).exec_related hshow hinit rfl

end Sys2Proof.Machine

/-! ## The history and the collaborators' shadows are never read (10_state.md sections 1, 4, 6) -/

namespace Sys2Proof.Machine

theorem sameBlock_respected : RespectedByPixels SameBlock where
  control := by
    rintro s t h
    rw [h]
    exact ⟨rfl, rfl, rfl, rfl, rfl, rfl⟩
  update := by
    rintro s t f hf h
    rw [h]
    cases hf <;> rfl
  store := by
    rintro s t i h
    rw [h]
    rfl
  completion := by
    rintro s t i h
    rw [h]

theorem sameBlock_respectedByShow : RespectedByShow SameBlock where
  toRespected := sameBlock_respected.toRespected
  setTx := by
    rintro s t x h
    rw [h]
    rfl
  pulse := by
    rintro s t h
    rw [h]

/-- Every command goes alike in two states that differ in the history and the shadows only. -/
theorem SameBlock.exec_related {s t : State} (i : Instr) (h : SameBlock s t) :
    OutcomesRelated SameBlock (exec i s) (exec i t) := by
  by_cases hshow : i = .showFrame
  · subst hshow
    have htx : t.txState = s.txState := by rw [h]
    have hfill : SameBlock s.fillPulse t.fillPulse := by
      rw [h]
      rfl
    exact (sameBlock_respected.control h).show_related htx (sameBlock_respected.raise _ h)
      (sameBlock_respectedByShow.past_guard hfill)
  by_cases hinit : i = .init
  · subst hinit
    refine sameBlock_respected.init_related (fun {s t} h => ?_) h
    rw [h]
    rfl
  exact sameBlock_respected.exec_related hshow hinit h

/-- Settles O26: history and shadows decide nothing in a step. -/
theorem collaboratorShadowsAreNeverRead : Obligations.CollaboratorShadowsAreNeverRead := by
  refine fun s t h => sameBlock_respected.step_related h (fun _ rest => ?_) fun _ i rest =>
    SameBlock.exec_related i (sameBlock_respected.update (.take rest) h)
  rw [h]
  rfl

end Sys2Proof.Machine

/-! ## What a change of the store alone can show (10_state.md R22 to R24) -/

namespace Sys2Proof.Machine

/-- `u` runs on from `s`, and `v` is `u` as a run from `t` has it: with the store of `t`, and with the
responses since `s` given after those of `t`. -/
def StoreSwapped (s t u v : State) : Prop :=
  u.store = s.store ∧ ∃ rs, u.responses = s.responses ++ rs ∧
    v = { u with store := t.store, responses := t.responses ++ rs }

section
variable {s t u v : State}

/-- States that differ in store and responses only start so. -/
theorem StoreSwapped.start (h : t = { s with store := t.store, responses := t.responses }) :
    StoreSwapped s t s t :=
  ⟨rfl, [], by simp, by simpa using h⟩

theorem storeSwapped_respected (s t : State) : Respected (StoreSwapped s t) where
  control := by
    rintro u _ ⟨-, rs, -, rfl⟩
    exact ⟨rfl, rfl, rfl, rfl, rfl, rfl⟩
  update := by
    rintro u _ f hf ⟨hstore, rs, hr, rfl⟩
    cases hf with
    | respond c =>
      refine ⟨hstore, rs ++ [encodeResponse c], by simp [hr], ?_⟩
      rw [← List.append_assoc]
      rfl
    | _ => exact ⟨hstore, rs, hr, rfl⟩

theorem storeSwapped_respectedByShow (s t : State) : RespectedByShow (StoreSwapped s t) where
  toRespected := storeSwapped_respected s t
  setTx := by
    rintro u _ x ⟨hstore, rs, hr, rfl⟩
    exact ⟨hstore, rs, hr, rfl⟩
  pulse := by
    rintro u _ ⟨-, rs, -, rfl⟩
    rfl

/-- Once the frame is filled, stores that agree on the twelve encoded bytes are all that differs. -/
theorem StoreSwapped.fillPulse (hcfg : t.cfg = s.cfg) (h12 : ∀ k : Fin 12, s.store[k.val] = t.store[k.val])
    (h : t = { s with store := t.store, pulse := t.pulse, responses := t.responses }) :
    StoreSwapped s t s.fillPulse t.fillPulse := by
  refine ⟨rfl, [], by simp, ?_⟩
  rw [State.fillPulse, State.fillPulse, hcfg, ← encodeFrame_congr s.cfg h12, List.append_nil]
  rw [h]

end

/-! ### The bytes `store[12..14]` and the Pulse Buffer -/

section
variable {s t : State}

/-- GET_COLORS reads the first twelve bytes only. -/
theorem readColours_congr {a b : Vector Byte 15} (h : ∀ k : Fin 12, a[k.val] = b[k.val]) :
    readColours a = readColours b := by
  refine Vector.ext fun i hi => ?_
  have h₀ : a[3 * i] = b[3 * i] := h ⟨3 * i, by omega⟩
  have h₁ : a[3 * i + 1] = b[3 * i + 1] := h ⟨3 * i + 1, by omega⟩
  have h₂ : a[3 * i + 2] = b[3 * i + 2] := h ⟨3 * i + 2, by omega⟩
  rw [readColours_get a i hi, readColours_get b i hi, h₀, h₁, h₂]

/-- A pixel store command gives stores that agree on the first twelve bytes stores that agree there. -/
theorem storeAfter_congr (i : Instr) {a b : Vector Byte 15} (h : ∀ k : Fin 12, a[k.val] = b[k.val])
    (k : Fin 12) : (storeAfter i a)[k.val] = (storeAfter i b)[k.val] := by
  cases i with
  | setPixel p c =>
    by_cases hp : p < 5
    · simp only [storeAfter, dif_pos hp, writePixel_get, h k]
    · simpa only [storeAfter, dif_neg hp] using h k
  | setAllPixels c => simp only [storeAfter, writeAllPixels_get]
  | _ => exact h k

theorem sameButSpare_respected : RespectedByPixels SameButSpare where
  control := by
    rintro s t ⟨-, h⟩
    rw [h]
    exact ⟨rfl, rfl, rfl, rfl, rfl, rfl⟩
  update := by
    rintro s t f hf ⟨h12, h⟩
    cases hf <;> exact ⟨h12, by rw [h]; rfl⟩
  store := by
    rintro s t i ⟨h12, h⟩
    refine ⟨storeAfter_congr i h12, ?_⟩
    rw [h]
  completion := by
    rintro s t i ⟨h12, -⟩
    cases i with
    | getColors => rw [pixelCompletion, pixelCompletion, readColours_congr h12]
    | _ => rfl

/-- A run from a state that differs in the spare bytes and the Pulse Buffer only ends so. -/
theorem StoreSwapped.sameButSpare {u v : State} (h : SameButSpare s t) (huv : StoreSwapped s t u v) :
    SameButSpare u v := by
  obtain ⟨h12, h⟩ := h
  obtain ⟨hstore, rs, hr, rfl⟩ := huv
  have hrt : t.responses = s.responses := by rw [h]
  exact ⟨fun k => by simpa only [hstore] using h12 k, by simp only [hrt, hr]⟩

/-- Every command goes alike in two states that differ in the spare bytes and the Pulse Buffer only. -/
theorem SameButSpare.exec_related (i : Instr) (hst : SameButSpare s t) :
    OutcomesRelated SameButSpare (exec i s) (exec i t) := by
  have ⟨h12, h⟩ := hst
  by_cases hshow : i = .showFrame
  · subst hshow
    have htx : t.txState = s.txState := by rw [h]
    have hfill : StoreSwapped s t s.fillPulse t.fillPulse :=
      .fillPulse (by rw [h]) h12 (by rw [h])
    exact (sameButSpare_respected.control hst).show_related htx (sameButSpare_respected.raise _ hst)
      (((storeSwapped_respectedByShow s t).past_guard hfill).sameButSpare hst)
  by_cases hinit : i = .init
  · subst hinit
    refine sameButSpare_respected.init_related (fun {s t} h => ?_) hst
    obtain ⟨-, h⟩ := h
    rw [h]
    exact ⟨fun _ => rfl, rfl⟩
  exact sameButSpare_respected.exec_related hshow hinit hst

end

/-- Settles O25: SHOW fills the Pulse Buffer before it reads it, from the twelve bytes that agree. -/
theorem spareBytesAndPulseAreUnobservable : Obligations.SpareBytesAndPulseAreUnobservable := by
  refine fun s t h => sameButSpare_respected.step_related h (fun _ rest => ?_) fun _ i rest =>
    SameButSpare.exec_related i (sameButSpare_respected.update (.take rest) h)
  obtain ⟨-, h⟩ := h
  rw [h]
  exact ⟨fun _ => rfl, rfl⟩

/-- Settles O21: after SET_PIXEL 4 the store differs in its last three bytes only. -/
theorem fifthSlotIsWriteOnly : Obligations.FifthSlotIsWriteOnly := by
  refine ⟨fun s c hc => ?_, rfl⟩
  have h12 : ∀ k : Fin 12, s.store[k.val] = (writePixel s.store 4 c)[k.val] := fun k =>
    (writePixel_get_other s.store 4 c k.val (by omega) (by simp; omega)).symm
  obtain ⟨hg, hr, hb⟩ := writePixel_get_position s.store 4 c
  refine ⟨_, exec_setPixel_inside hc (by decide) c, rfl, fun k => (h12 k).symm, hg, hr, hb, rfl, rfl,
    (encodeFrame_congr s.cfg h12).symm, ?_, ?_⟩
  · set t : State := State.respond { s with store := writePixel s.store 4 c } .ok with ht
    have hst : StoreSwapped s t s t := .start rfl
    have hR := storeSwapped_respectedByShow s t
    have hrel := (hR.control hst).show_related rfl (hR.raise _ hst)
      (hR.past_guard (.fillPulse rfl h12 rfl))
    obtain ⟨u, hu⟩ := acceptedCommandsAnswerNext .showFrame s (by simp [hc])
    obtain ⟨v, hv⟩ := acceptedCommandsAnswerNext .showFrame t (by simp [ht, hc])
    rw [hu, hv] at hrel
    obtain ⟨-, rs, hrs, rfl⟩ := hrel
    exact ⟨u, rs, hu, hrs, hv⟩
  · refine ⟨_, exec_getColors hc, ?_⟩
    rw [exec_getColors (by simpa using hc), readColours_congr h12]
    rfl

/-! ### Pixel store commands beside channel mapper commands -/

/-- The commands that touch only the expander's channels. -/
def IsMapperCommand (j : Instr) : Prop := (∃ m d, j = .moveServo m d) ∨ (∃ m d v, j = .driveMotor m d v)

/-- A mapper command goes alike in states that differ in what no call reads. -/
theorem Respected.mapper_related {R : State → State → Prop} (hR : Respected R) {j : Instr}
    (hj : IsMapperCommand j) {s t : State} (h : R s t) : OutcomesRelated R (exec j s) (exec j t) := by
  obtain ⟨m, d, rfl⟩ | ⟨m, d, v, rfl⟩ := hj
  · exact hR.moveServo_related m d h
  · exact hR.driveMotor_related m d v h

/-- A whole command leaves no second write to be made. -/
theorem execWhole_pending {i : Instr} {s t : State} (hp : s.pending = none) (h : execWhole i s = .next t) :
    t.pending = none :=
  execWhole_cases (P := fun t => t.pending = none) hp h (fun _ _ ht => ht)
    fun _ _ _ _ _ _ => (finishDriveMotor_frame _ _).2

/-- Settles O28: the mapper command runs alike on the store before and after the pixel store command, and
leaves the store as it was. -/
theorem pixelAndMapperCommandsCommute : Obligations.PixelAndMapperCommandsCommute := by
  intro i j s t u t' u' hp hi hj hit htu hjt' htu'
  have ht := execWhole_pixel hi hp hit
  have hu' := execWhole_pixel hi (execWhole_pending hp hjt') htu'
  have hst : StoreSwapped s t s t := .start (by rw [ht]; rfl)
  have hR := storeSwapped_respected s t
  have hrel := hR.execWhole_related (hR.mapper_related hj hst)
  rw [hjt', htu] at hrel
  obtain ⟨hstore, rs, hr, rfl⟩ := hrel
  subst hu'
  subst ht
  refine ⟨by rw [hstore]; rfl, ?_⟩
  simp only [State.respond_responses, hr, hstore, List.append_assoc]
  exact List.Perm.append_left _ List.perm_append_comm

end Sys2Proof.Machine

/-! ## Every event is a legal call with a legal answer (10_state.md R28, 30_encoding.md R95) -/

namespace Sys2Proof.Machine

theorem returnAnswer_legal (r : Return) : returnAnswer r = .returned ∨ returnAnswer r = .never := by
  cases r with
  | returns => exact .inl rfl
  | never => exact .inr rfl

theorem loadAnswer_legal (r : Reply PerErr) :
    loadAnswer r = .ok ∨ (∃ e, loadAnswer r = .perErr e) ∨ loadAnswer r = .never := by
  cases r with
  | ok => exact .inl rfl
  | err e => exact .inr (.inl ⟨e, rfl⟩)
  | never => exact .inr (.inr rfl)

theorem expAnswer_legal (r : Reply ExpErr) :
    expAnswer r = .ok ∨ (∃ e, expAnswer r = .expErr e) ∨ expAnswer r = .never := by
  cases r with
  | ok => exact .inl rfl
  | err e => exact .inr (.inl ⟨e, rfl⟩)
  | never => exact .inr (.inr rfl)

/-- A servo's channel is bound. -/
theorem servoCh_mem_bound (cfg : Config) (m : Fin 8) : cfg.servoCh[m.val] ∈ boundChannels cfg :=
  List.mem_append_left _ (by simp)

/-- Both channels of a motor are bound. -/
theorem motorPair_mem_bound (cfg : Config) (m : Fin 4) :
    cfg.motorPair[m.val].1 ∈ boundChannels cfg ∧ cfg.motorPair[m.val].2 ∈ boundChannels cfg := by
  have hmem : cfg.motorPair[m.val] ∈ cfg.motorPair.toList := by simp
  exact ⟨List.mem_append_right _ (List.mem_flatMap.2 ⟨_, hmem, by simp⟩),
    List.mem_append_right _ (List.mem_flatMap.2 ⟨_, hmem, by simp⟩)⟩

/-- Both channels of a motor are bound, whichever way its slot turns. -/
theorem motorChannels_mem_bound (cfg : Config) (m : Fin 4) :
    motorFwd cfg m ∈ boundChannels cfg ∧ motorRev cfg m ∈ boundChannels cfg := by
  obtain ⟨hfst, hsnd⟩ := motorPair_mem_bound cfg m
  unfold motorFwd motorRev
  split
  · exact ⟨hsnd, hfst⟩
  · exact ⟨hfst, hsnd⟩

/-- Both writes of a DRIVE_MOTOR are legal. -/
theorem motorWrites_legal (cfg : Config) (m : Fin 4) (d : Direction) (v : Nat) :
    CallLegal cfg (.exp (motorFirst cfg m d v).call) ∧ CallLegal cfg (.exp (motorSecond cfg m d v).call) := by
  obtain ⟨hfwd, hrev⟩ := motorChannels_mem_bound cfg m
  have hduty : motorDuty v ≤ 4095 := min_le_left _ _
  unfold motorFirst motorSecond
  split
  · exact ⟨⟨hfwd, rfl, hduty⟩, ⟨hrev, rfl, Nat.zero_le _⟩⟩
  · exact ⟨⟨hrev, rfl, hduty⟩, ⟨hfwd, rfl, Nat.zero_le _⟩⟩
  · exact ⟨⟨hfwd, rfl, Nat.zero_le _⟩, ⟨hrev, rfl, hduty⟩⟩

/-- The write of MOVE_SERVO is legal. -/
theorem servoWrite_legal (cfg : Config) (m : Fin 8) {d n : Nat} (h : servoTick d = .tick n) :
    CallLegal cfg (.exp (ChannelWrite.mk (servoChannel cfg m) n).call) := by
  have hn := servoTick_tick h
  exact ⟨servoCh_mem_bound cfg m, rfl, by show n ≤ 4095; omega⟩

section
variable {s t : State}

/-- No event and no second write is new. -/
theorem HistoryLegal.of_eq (h : HistoryLegal s) (hcfg : t.cfg = s.cfg) (hh : t.history = s.history)
    (hp : t.pending = s.pending) : HistoryLegal t := by
  unfold HistoryLegal
  rw [hcfg, hh, hp]
  exact h

/-- One more legal event. -/
theorem HistoryLegal.event {ev : Event} (h : HistoryLegal s) (hcall : CallLegal s.cfg ev.call)
    (hans : AnswerLegal ev.call ev.answer) (hcfg : t.cfg = s.cfg) (hh : t.history = s.history ++ [ev])
    (hp : t.pending = s.pending) : HistoryLegal t := by
  obtain ⟨hevents, hpending⟩ := h
  unfold HistoryLegal
  rw [hcfg, hh, hp]
  refine ⟨fun e he => ?_, hpending⟩
  obtain he | he := List.mem_append.1 he
  · exact hevents e he
  · rw [List.mem_singleton.1 he]
    exact ⟨hcall, hans⟩

theorem HistoryLegal.afterExp {c : ExpCall} (h : HistoryLegal s) (hc : CallLegal s.cfg (.exp c))
    (r : Reply ExpErr) : HistoryLegal (s.afterExp c r) :=
  h.event (ev := ⟨.exp c, expAnswer r⟩) hc (expAnswer_legal r) rfl rfl rfl

theorem HistoryLegal.afterSetter {x : PwmSetting} (h : HistoryLegal s) (hx : x ∈ showSettings s.cfg)
    (r : Return) : HistoryLegal (s.afterSetter x r) :=
  h.event (ev := ⟨.pwmSet x, returnAnswer r⟩) hx (returnAnswer_legal r) rfl rfl rfl

theorem HistoryLegal.afterSetters {xs : List PwmSetting} (h : HistoryLegal s)
    (hxs : ∀ x ∈ xs, x ∈ showSettings s.cfg) : HistoryLegal (s.afterSetters xs) := by
  induction xs generalizing s with
  | nil => exact h
  | cons x xs ih =>
    obtain ⟨hx, hxs⟩ := List.forall_mem_cons.1 hxs
    exact ih (h.afterSetter hx .returns) hxs

theorem HistoryLegal.afterLoad {buf : Vector Code 98} (h : HistoryLegal s) (hbuf : FrameShaped s.cfg buf)
    (r : Reply PerErr) : HistoryLegal (s.afterLoad buf r) :=
  h.event (ev := ⟨.pwmLoad buf none true, loadAnswer r⟩) ⟨hbuf, rfl, rfl⟩ (loadAnswer_legal r) rfl rfl rfl

theorem HistoryLegal.afterSplit (h : HistoryLegal s) (r : Return) : HistoryLegal (s.afterSplit r) :=
  h.event (ev := ⟨.pwmWaitAndSplit, returnAnswer r⟩) trivial (returnAnswer_legal r) rfl rfl rfl

/-- SHOW with its frame loaded, or failing to load. -/
theorem HistoryLegal.showLoaded (h : HistoryLegal s) (r : Reply PerErr) :
    HistoryLegal (((s.fillPulse.afterSetters (showSettings s.cfg)).setTx .transmitting).afterLoad
      (encodeFrame s.cfg s.store) r) := by
  have hfill : HistoryLegal s.fillPulse := h.of_eq rfl rfl rfl
  have hset : HistoryLegal ((s.fillPulse.afterSetters (showSettings s.cfg)).setTx .transmitting) :=
    (hfill.afterSetters fun _ hx => hx).of_eq rfl rfl rfl
  exact hset.afterLoad (by simpa using encodeFrame_shaped s.cfg s.store) r

/-- A command of a legal history makes legal calls, and keeps a legal second write. -/
theorem exec_historyLegal {i : Instr} (hs : HistoryLegal s) (h : exec i s = .next t) : HistoryLegal t := by
  refine exec_elim (P := HistoryLegal) h
    ?pix ?bad ?all ?get ?unbound ?showSet ?showErr ?showLoad ?showSplit ?showOk ?servoBad ?servo ?motor ?ini
  case pix => exact fun _ _ _ _ _ => hs.of_eq rfl rfl rfl
  case bad => exact fun _ _ _ _ _ => hs.of_eq rfl rfl rfl
  case all => exact fun _ _ _ => hs.of_eq (by simp) (by simp) (by simp)
  case get => exact fun _ _ => hs.of_eq rfl rfl rfl
  case unbound => exact fun _ _ _ => hs.of_eq rfl rfl rfl
  case showSet =>
    intro _ _ _ pre x post hx
    have hfill : HistoryLegal s.fillPulse := hs.of_eq rfl rfl rfl
    have hpre : HistoryLegal (s.fillPulse.afterSetters pre) :=
      hfill.afterSetters fun y hy => by simp [hx, hy]
    exact (hpre.afterSetter (by simp [hx]) .never).of_eq rfl rfl rfl
  case showErr =>
    intro _ _ _ e
    rw [State.afterLoadError_eq]
    exact (hs.showLoaded (.err e)).of_eq rfl rfl rfl
  case showLoad => exact fun _ _ _ => (hs.showLoaded .never).of_eq rfl rfl rfl
  case showSplit => exact fun _ _ _ => ((hs.showLoaded .ok).afterSplit .never).of_eq rfl rfl rfl
  case showOk => exact fun _ _ _ => ((hs.showLoaded .ok).afterSplit .returns).of_eq rfl rfl rfl
  case servoBad => exact fun _ _ _ _ _ => hs.of_eq rfl rfl rfl
  case servo =>
    rintro m d n - - htick w rfl
    have hw := hs.afterExp (servoWrite_legal s.cfg m htick)
    exact ⟨(hw .ok).of_eq rfl rfl rfl, fun e => (hw (.err e)).of_eq rfl rfl rfl,
      (hw .never).of_eq rfl rfl rfl⟩
  case motor =>
    rintro m d v - - x y rfl rfl
    obtain ⟨hfirst, hsecond⟩ := motorWrites_legal s.cfg m d v
    have hw := hs.afterExp hfirst
    obtain ⟨hevents, -⟩ := hw .ok
    refine ⟨⟨hevents, fun w hw => ?_⟩, fun e => (hw (.err e)).of_eq rfl rfl rfl,
      (hw .never).of_eq rfl rfl rfl⟩
    rw [← Option.some.inj hw]
    exact hsecond
  case ini =>
    rintro - - x y rfl rfl
    have hnew := hs.afterExp (c := .new s.cfg.expanderAddr) rfl
    have hpre := (hnew .ok).afterExp (c := .setPrescale s.cfg.prescale50Hz) rfl
    exact ⟨(hpre .ok).of_eq rfl rfl rfl, fun e => (hnew (.err e)).of_eq rfl rfl rfl,
      (hnew .never).of_eq rfl rfl rfl, fun e => (hpre (.err e)).of_eq rfl rfl rfl,
      (hpre .never).of_eq rfl rfl rfl⟩

/-- The second write of DRIVE_MOTOR is the legal one that was kept. -/
theorem finishDriveMotor_historyLegal {w : ChannelWrite} (hs : HistoryLegal s) (hp : s.pending = some w) :
    HistoryLegal (finishDriveMotor w s) := by
  obtain ⟨hevents, hpending⟩ := hs
  have hstart : HistoryLegal s.takeWrite := ⟨hevents, by simp⟩
  have hw := hstart.afterExp (hpending w hp)
  exact finishDriveMotor_elim (P := HistoryLegal) w s (fun _ => (hw .ok).of_eq rfl rfl rfl)
    (fun e _ => (hw (.err e)).of_eq rfl rfl rfl) fun _ => (hw .never).of_eq rfl rfl rfl

end

/-- Settles O50: every new event is legal, and so is the second write that is kept. -/
theorem stepKeepsHistoryLegal : Obligations.StepKeepsHistoryLegal := by
  intro s t hs h
  obtain ⟨-, ⟨w, hp, rfl⟩ | ⟨-, -, rfl⟩ | ⟨rest, -, -, rfl⟩ | ⟨w, rest, i, -, -, -, hexec⟩⟩ := step_next_cases h
  · exact finishDriveMotor_historyLegal hs hp
  · exact hs
  · exact ⟨by simp, by simp⟩
  · exact exec_historyLegal (s := s.take rest) (hs.of_eq rfl rfl rfl) hexec

end Sys2Proof.Machine

/-! ## At most one call is unanswered, and it is the last (20_memory.md R60) -/

namespace Sys2Proof.Machine

/-- Every call of the history was answered. -/
def AllAnswered (s : State) : Prop := ∀ e ∈ s.history, e.answer ≠ .never

section
variable {s t u : State}

/-- No event is new. -/
theorem AllAnswered.of_eq (h : AllAnswered u) (hh : t.history = u.history) : AllAnswered t := by
  unfold AllAnswered
  rwa [hh]

/-- One more answered call. -/
theorem AllAnswered.event {ev : Event} (h : AllAnswered u) (hev : ev.answer ≠ .never)
    (hh : t.history = u.history ++ [ev]) : AllAnswered t := by
  intro e he
  rw [hh] at he
  obtain he | he := List.mem_append.1 he
  · exact h e he
  · rwa [List.mem_singleton.1 he]

theorem AllAnswered.afterSetters (xs : List PwmSetting) (h : AllAnswered u) : AllAnswered (u.afterSetters xs) := by
  induction xs generalizing u with
  | nil => exact h
  | cons x xs ih =>
    exact ih (h.event (ev := ⟨.pwmSet x, .returned⟩) (t := u.afterSetter x .returns) (by simp) rfl)

/-- An expander call answered Ok or Err. -/
theorem AllAnswered.afterExp (c : ExpCall) {r : Reply ExpErr} (hr : r ≠ .never) (h : AllAnswered u) :
    AllAnswered (u.afterExp c r) := by
  refine h.event (ev := ⟨.exp c, expAnswer r⟩) ?_ rfl
  cases r with
  | never => exact absurd rfl hr
  | _ => simp [expAnswer]

/-- SHOW with its frame loaded, or refused by the peripheral. -/
theorem AllAnswered.showLoaded {r : Reply PerErr} (hr : r ≠ .never) (h : AllAnswered s) :
    AllAnswered (((s.fillPulse.afterSetters (showSettings s.cfg)).setTx .transmitting).afterLoad
      (encodeFrame s.cfg s.store) r) := by
  have hset : AllAnswered (s.fillPulse.afterSetters (showSettings s.cfg)) :=
    .afterSetters (u := s.fillPulse) _ h
  refine hset.event (ev := ⟨.pwmLoad (encodeFrame s.cfg s.store) none true, loadAnswer r⟩) ?_ rfl
  cases r with
  | never => exact absurd rfl hr
  | _ => simp [loadAnswer]

/-- A free port, with no command between its writes. -/
theorem PortConsistent.free (h : AllAnswered t) (hb : t.blocked = none) (hp : t.pending = none) :
    PortConsistent t := by
  unfold PortConsistent
  rw [hb, hp]
  exact ⟨h, by simp⟩

/-- A port that hangs in a call made after answered ones. -/
theorem PortConsistent.hung {c : Call} (h : AllAnswered u) (hh : t.history = u.history ++ [⟨c, .never⟩])
    (hb : t.blocked = some c) (hp : t.pending = none) : PortConsistent t := by
  unfold PortConsistent
  rw [hb, hp]
  exact ⟨⟨u.history, hh, h⟩, by simp⟩

/-- A command accepted at a free port leaves it consistent: every call but the last was answered, and one
that was not ends the command. -/
theorem exec_portConsistent {i : Instr} (hb : s.blocked = none) (hp : s.pending = none) (hs : AllAnswered s)
    (h : exec i s = .next t) : PortConsistent t := by
  refine exec_elim (P := PortConsistent) h
    ?pix ?bad ?all ?get ?unbound ?showSet ?showErr ?showLoad ?showSplit ?showOk ?servoBad ?servo ?motor ?ini
  case pix => exact fun _ _ _ _ _ => .free hs hb hp
  case bad => exact fun _ _ _ _ _ => .free hs hb hp
  case all => exact fun _ _ _ => .free (hs.of_eq (by simp)) (by simpa using hb) (by simpa using hp)
  case get => exact fun _ _ => .free hs hb hp
  case unbound => exact fun _ _ _ => .free hs hb hp
  case showSet =>
    intro _ _ _ pre x post _
    exact .hung (AllAnswered.afterSetters (u := s.fillPulse) pre hs) rfl rfl (by simpa using hp)
  case showErr =>
    intro _ _ _ e
    rw [State.afterLoadError_eq]
    exact .free (hs.showLoaded (r := .err e) (by simp)) (by simpa using hb) (by simpa using hp)
  case showLoad =>
    intro _ _ _
    exact .hung (AllAnswered.afterSetters (u := s.fillPulse) (showSettings s.cfg) hs) rfl rfl
      (by simpa using hp)
  case showSplit =>
    exact fun _ _ _ => .hung (hs.showLoaded (r := .ok) (by simp)) rfl rfl (by simpa using hp)
  case showOk =>
    intro _ _ _
    refine .free ?_ (by simpa using hb) (by simpa using hp)
    exact (hs.showLoaded (r := .ok) (by simp)).event (ev := ⟨.pwmWaitAndSplit, .returned⟩) (by simp) rfl
  case servoBad => exact fun _ _ _ _ _ => .free hs hb hp
  case servo =>
    exact fun _ _ _ _ _ _ _ _ => ⟨.free (hs.afterExp _ (r := .ok) (by simp)) hb hp,
      fun e => .free (hs.afterExp _ (r := .err e) (by simp)) hb hp, .hung hs rfl rfl hp⟩
  case motor =>
    intro _ _ _ _ hc x y _ _
    refine ⟨?_, fun e => .free (hs.afterExp _ (r := .err e) (by simp)) hb hp, .hung hs rfl rfl hp⟩
    have hans : AllAnswered ((s.afterExp x.call .ok).holdWrite y) := hs.afterExp x.call (r := .ok) (by simp)
    unfold PortConsistent
    rw [show ((s.afterExp x.call .ok).holdWrite y).blocked = none from hb]
    exact ⟨hans, fun _ => ⟨rfl, hc, s.history, x, rfl⟩⟩
  case ini =>
    intro _ _ x y _ _
    have hnew := hs.afterExp x (r := .ok) (by simp)
    exact ⟨.free (hnew.afterExp y (r := .ok) (by simp)) hb hp,
      fun e => .free (hs.afterExp x (r := .err e) (by simp)) hb hp, .hung hs rfl rfl hp,
      fun e => .free (hnew.afterExp y (r := .err e) (by simp)) hb hp, .hung hnew rfl rfl hp⟩

/-- The second write of DRIVE_MOTOR leaves the port consistent. -/
theorem finishDriveMotor_portConsistent (w : ChannelWrite) (hb : s.blocked = none) (hs : AllAnswered s) :
    PortConsistent (finishDriveMotor w s) := by
  have hstart : AllAnswered s.takeWrite := hs
  exact finishDriveMotor_elim (P := PortConsistent) w s
    (fun _ => .free (hstart.afterExp w.call (r := .ok) (by simp)) hb rfl)
    (fun e _ => .free (hstart.afterExp w.call (r := .err e) (by simp)) hb rfl)
    fun _ => .hung hstart rfl rfl rfl

end

/-- Settles O51: a step goes on from a free port only, where every call was answered. -/
theorem stepKeepsPortConsistent : Obligations.StepKeepsPortConsistent := by
  intro s t hs h
  have hkeep := hs
  obtain ⟨hb, hcases⟩ := step_next_cases h
  unfold PortConsistent at hs
  rw [hb] at hs
  obtain ⟨hans, -⟩ := hs
  obtain ⟨w, -, rfl⟩ | ⟨-, -, rfl⟩ | ⟨rest, -, -, rfl⟩ | ⟨w, rest, i, hp, -, -, hexec⟩ := hcases
  · exact finishDriveMotor_portConsistent w hb hans
  · exact hkeep
  · exact .free (by simp [AllAnswered]) hb rfl
  · exact exec_portConsistent (s := s.take rest) hb hp hans hexec

end Sys2Proof.Machine

/-! ## Why the transmitter can be lent (41_show.md R141) -/

namespace Sys2Proof.Machine

section
variable {s t : State}

/-- Nothing was lent and nothing given back, and no event was forgotten. -/
theorem TransmitExplained.of_eq (h : TransmitExplained s) (hb : s.blocked = none) (htx : t.txState = s.txState)
    (hc : t.constructed = s.constructed) (hcfg : t.cfg = s.cfg) (hh : s.history <+: t.history) :
    TransmitExplained t := by
  intro ht
  obtain ⟨hcons, hblocked | ⟨hreclaim, buf, e, hmem⟩⟩ := h (htx ▸ ht)
  · simp [hb] at hblocked
  · exact ⟨hc.trans hcons, .inr ⟨hcfg ▸ hreclaim, buf, e, hh.subset hmem⟩⟩

/-- Nothing is lent. -/
theorem TransmitExplained.of_idle (h : t.txState = .idle) : TransmitExplained t := by
  intro ht
  simp [h] at ht

/-- The block hangs. -/
theorem TransmitExplained.of_hung {c : Call} (hc : t.constructed = true) (hb : t.blocked = some c) :
    TransmitExplained t :=
  fun _ => ⟨hc, .inl (by simp [hb])⟩

/-- A load error is in the history, and lends only where it is not reclaimed. -/
theorem TransmitExplained.of_load_error {buf : Vector Code 98} {e : PerErr} (hc : t.constructed = true)
    (htx : t.txState = if t.cfg.reclaimOnError then .idle else .transmitting)
    (hmem : (⟨.pwmLoad buf none true, .perErr e⟩ : Event) ∈ t.history) : TransmitExplained t := by
  intro ht
  refine ⟨hc, .inr ⟨?_, buf, e, hmem⟩⟩
  rw [htx] at ht
  simpa using ht

/-- A command lends the transmitter only in SHOW, where it hangs or reports a load error. -/
theorem exec_transmitExplained {i : Instr} (hs : TransmitExplained s) (hb : s.blocked = none)
    (h : exec i s = .next t) : TransmitExplained t := by
  refine exec_elim (P := TransmitExplained) h
    ?pix ?bad ?all ?get ?unbound ?showSet ?showErr ?showLoad ?showSplit ?showOk ?servoBad ?servo ?motor ?ini
  case pix => exact fun _ _ _ _ _ => hs.of_eq hb rfl rfl rfl (by simp)
  case bad => exact fun _ _ _ _ _ => hs.of_eq hb rfl rfl rfl (by simp)
  case all => exact fun _ _ _ => hs.of_eq hb (by simp) (by simp) (by simp) (by simp)
  case get => exact fun _ _ => hs.of_eq hb rfl rfl rfl (by simp)
  case unbound => exact fun _ _ _ => hs.of_eq hb rfl rfl rfl (by simp)
  case showSet => exact fun _ _ hi _ _ _ _ => .of_idle (by simpa using hi)
  case showErr =>
    intro _ hc _ e
    rw [State.afterLoadError_eq]
    exact .of_load_error (by simpa using hc) rfl (List.mem_append_right _ List.mem_cons_self)
  case showLoad => exact fun _ hc _ => .of_hung (by simpa using hc) rfl
  case showSplit => exact fun _ hc _ => .of_hung (by simpa using hc) rfl
  case showOk => exact fun _ _ _ => .of_idle rfl
  case servoBad => exact fun _ _ _ _ _ => hs.of_eq hb rfl rfl rfl (by simp)
  case servo =>
    exact fun _ _ _ _ _ _ _ _ => ⟨hs.of_eq hb rfl rfl rfl (by simp),
      fun _ => hs.of_eq hb rfl rfl rfl (by simp), hs.of_eq hb rfl rfl rfl (by simp)⟩
  case motor =>
    exact fun _ _ _ _ _ _ _ _ _ => ⟨hs.of_eq hb rfl rfl rfl (by simp),
      fun _ => hs.of_eq hb rfl rfl rfl (by simp), hs.of_eq hb rfl rfl rfl (by simp)⟩
  case ini =>
    exact fun _ _ _ _ _ _ => ⟨.of_idle rfl, fun _ => hs.of_eq hb rfl rfl rfl (by simp),
      hs.of_eq hb rfl rfl rfl (by simp), fun _ => hs.of_eq hb rfl rfl rfl (by simp),
      hs.of_eq hb rfl rfl rfl (by simp)⟩

/-- The second write of DRIVE_MOTOR lends nothing. -/
theorem finishDriveMotor_transmitExplained (w : ChannelWrite) (hs : TransmitExplained s) (hb : s.blocked = none) :
    TransmitExplained (finishDriveMotor w s) :=
  finishDriveMotor_elim (P := TransmitExplained) w s (fun _ => hs.of_eq hb rfl rfl rfl (by simp))
    (fun _ _ => hs.of_eq hb rfl rfl rfl (by simp)) fun _ => hs.of_eq hb rfl rfl rfl (by simp)

end

/-- Settles O52: a step goes on from a block that does not hang, so a lent transmitter has its load error. -/
theorem stepKeepsTransmitExplained : Obligations.StepKeepsTransmitExplained := by
  intro s t hs h
  obtain ⟨hb, ⟨w, -, rfl⟩ | ⟨-, -, rfl⟩ | ⟨rest, -, -, rfl⟩ | ⟨w, rest, i, -, -, -, hexec⟩⟩ := step_next_cases h
  · exact finishDriveMotor_transmitExplained w hs hb
  · exact hs
  · exact .of_idle rfl
  · exact exec_transmitExplained (s := s.take rest) hs hb hexec

end Sys2Proof.Machine

/-! ## The channel shadow agrees with the last writes (10_state.md R31) -/

namespace Sys2Proof.Machine

/-- The last write after one more event: that event if it writes the channel, else the one before. -/
theorem lastWrite_append (h : List Event) (ev : Event) (ch : Nat) :
    lastWrite (h ++ [ev]) ch = if writesChannel ch ev then some ev else lastWrite h ch := by
  unfold lastWrite
  rw [List.filter_append]
  split
  case isTrue hw => rw [List.filter_cons_of_pos hw, List.filter_nil, List.getLast?_concat]
  case isFalse hw => rw [List.filter_cons_of_neg hw, List.filter_nil, List.append_nil]

/-- An answered or unanswered write leaves its channel as its event says, and the others alone. -/
theorem afterCall_write_read (x : Expander) (ch on off : Nat) (r : Reply ExpErr) (ch' : Nat) :
    (x.afterCall (.setChannelOnOff ch on off) r).chan.read ch' =
      if ch = ch' then writtenPair ⟨.exp (.setChannelOnOff ch on off), expAnswer r⟩ else x.chan.read ch' := by
  split
  case isTrue h =>
    subst h
    cases r with
    | ok => exact ChannelMap.read_write_same _ _ _
    | err e => exact ChannelMap.read_forget_same _ _
    | never => exact ChannelMap.read_forget_same _ _
  case isFalse h =>
    cases r with
    | ok => exact ChannelMap.read_write_other _ _ (Ne.symm h)
    | err e => exact ChannelMap.read_forget_other _ (Ne.symm h)
    | never => exact ChannelMap.read_forget_other _ (Ne.symm h)

/-- The calls of INIT leave every channel alone. -/
theorem afterCall_init_chan (x : Expander) (a : Nat) (r : Reply ExpErr) :
    (x.afterCall (.new a) r).chan = x.chan ∧ (x.afterCall (.setPrescale a) r).chan = x.chan := by
  cases r <;> exact ⟨rfl, rfl⟩

section
variable {s t : State}

/-- No channel and no event is new. -/
theorem ShadowAgrees.of_eq (h : ShadowAgrees s) (hx : t.expander = s.expander) (hh : t.history = s.history) :
    ShadowAgrees t := by
  unfold ShadowAgrees
  rw [hx, hh]
  exact h

/-- One more event that writes no channel. -/
theorem ShadowAgrees.event {ev : Event} (h : ShadowAgrees s) (hev : ∀ ch, writesChannel ch ev = false)
    (hx : t.expander.chan = s.expander.chan) (hh : t.history = s.history ++ [ev]) : ShadowAgrees t := by
  obtain ⟨hwf, hread⟩ := h
  unfold ShadowAgrees
  rw [hx, hh]
  refine ⟨hwf, fun ch e he => hread ch e ?_⟩
  rwa [lastWrite_append, hev, if_neg (by simp)] at he

/-- A call of the expander driver moves shadow and history together. -/
theorem ShadowAgrees.afterExp (c : ExpCall) (r : Reply ExpErr) (h : ShadowAgrees s) :
    ShadowAgrees (s.afterExp c r) := by
  cases c with
  | new a => exact h.event (fun _ => rfl) (afterCall_init_chan _ a r).1 rfl
  | setPrescale v => exact h.event (fun _ => rfl) (afterCall_init_chan _ v r).2 rfl
  | setChannelOnOff ch on off =>
    obtain ⟨hwf, hread⟩ := h
    refine ⟨Expander.afterCall_wf _ r hwf, fun ch' e he => ?_⟩
    rw [State.afterExp_history, lastWrite_append] at he
    rw [State.afterExp_expander, afterCall_write_read]
    by_cases hch : ch = ch'
    · rw [if_pos (by simp [writesChannel, hch])] at he
      rw [if_pos hch, Option.some.inj he]
    · rw [if_neg (by simp [writesChannel, hch])] at he
      rw [if_neg hch]
      exact hread ch' e he

theorem ShadowAgrees.afterSetters (xs : List PwmSetting) (h : ShadowAgrees s) : ShadowAgrees (s.afterSetters xs) := by
  induction xs generalizing s with
  | nil => exact h
  | cons x xs ih =>
    exact ih (h.event (ev := ⟨.pwmSet x, .returned⟩) (t := s.afterSetter x .returns) (fun _ => rfl) rfl rfl)

/-- SHOW with its load answered or not: no channel was written. -/
theorem ShadowAgrees.showLoaded (r : Reply PerErr) (h : ShadowAgrees s) :
    ShadowAgrees (((s.fillPulse.afterSetters (showSettings s.cfg)).setTx .transmitting).afterLoad
      (encodeFrame s.cfg s.store) r) := by
  have hfill : ShadowAgrees s.fillPulse := h.of_eq rfl rfl
  exact (hfill.afterSetters (showSettings s.cfg)).event
    (ev := ⟨.pwmLoad (encodeFrame s.cfg s.store) none true, loadAnswer r⟩) (fun _ => rfl) rfl rfl

/-- The wait writes no channel. -/
theorem ShadowAgrees.afterSplit (r : Return) (h : ShadowAgrees s) : ShadowAgrees (s.afterSplit r) :=
  h.event (ev := ⟨.pwmWaitAndSplit, returnAnswer r⟩) (fun _ => rfl) rfl rfl

/-- Every command moves shadow and history together. -/
theorem exec_shadowAgrees {i : Instr} (hs : ShadowAgrees s) (h : exec i s = .next t) : ShadowAgrees t := by
  refine exec_elim (P := ShadowAgrees) h
    ?pix ?bad ?all ?get ?unbound ?showSet ?showErr ?showLoad ?showSplit ?showOk ?servoBad ?servo ?motor ?ini
  case pix => exact fun _ _ _ _ _ => hs.of_eq rfl rfl
  case bad => exact fun _ _ _ _ _ => hs.of_eq rfl rfl
  case all => exact fun _ _ _ => hs.of_eq (by simp) (by simp)
  case get => exact fun _ _ => hs.of_eq rfl rfl
  case unbound => exact fun _ _ _ => hs.of_eq rfl rfl
  case showSet =>
    intro _ _ _ pre x post _
    have hfill : ShadowAgrees s.fillPulse := hs.of_eq rfl rfl
    exact (hfill.afterSetters pre).event (ev := ⟨.pwmSet x, .never⟩) (fun _ => rfl) rfl rfl
  case showErr =>
    intro _ _ _ e
    rw [State.afterLoadError_eq]
    exact (hs.showLoaded (.err e)).of_eq rfl rfl
  case showLoad => exact fun _ _ _ => (hs.showLoaded .never).of_eq rfl rfl
  case showSplit => exact fun _ _ _ => ((hs.showLoaded .ok).afterSplit .never).of_eq rfl rfl
  case showOk => exact fun _ _ _ => ((hs.showLoaded .ok).afterSplit .returns).of_eq rfl rfl
  case servoBad => exact fun _ _ _ _ _ => hs.of_eq rfl rfl
  case servo =>
    exact fun _ _ _ _ _ _ w _ => ⟨(hs.afterExp w.call .ok).of_eq rfl rfl,
      fun e => (hs.afterExp w.call (.err e)).of_eq rfl rfl, (hs.afterExp w.call .never).of_eq rfl rfl⟩
  case motor =>
    exact fun _ _ _ _ _ x _ _ _ => ⟨(hs.afterExp x.call .ok).of_eq rfl rfl,
      fun e => (hs.afterExp x.call (.err e)).of_eq rfl rfl, (hs.afterExp x.call .never).of_eq rfl rfl⟩
  case ini =>
    intro _ _ x y _ _
    have hnew := hs.afterExp x .ok
    exact ⟨(hnew.afterExp y .ok).of_eq rfl rfl, fun e => (hs.afterExp x (.err e)).of_eq rfl rfl,
      (hs.afterExp x .never).of_eq rfl rfl, fun e => (hnew.afterExp y (.err e)).of_eq rfl rfl,
      (hnew.afterExp y .never).of_eq rfl rfl⟩

/-- So does the second write of DRIVE_MOTOR. -/
theorem finishDriveMotor_shadowAgrees (w : ChannelWrite) (hs : ShadowAgrees s) :
    ShadowAgrees (finishDriveMotor w s) := by
  have hstart : ShadowAgrees s.takeWrite := hs.of_eq rfl rfl
  exact finishDriveMotor_elim (P := ShadowAgrees) w s (fun _ => (hstart.afterExp w.call .ok).of_eq rfl rfl)
    (fun e _ => (hstart.afterExp w.call (.err e)).of_eq rfl rfl)
    fun _ => (hstart.afterExp w.call .never).of_eq rfl rfl

end

/-- Settles O53: a reset empties the history, and every other step moves it together with the shadow. -/
theorem stepKeepsShadowAgrees : Obligations.StepKeepsShadowAgrees := by
  intro s t hs h
  obtain ⟨-, ⟨w, -, rfl⟩ | ⟨-, -, rfl⟩ | ⟨rest, -, -, rfl⟩ | ⟨w, rest, i, -, -, -, hexec⟩⟩ := step_next_cases h
  · exact finishDriveMotor_shadowAgrees w hs
  · exact hs
  · obtain ⟨hwf, -⟩ := hs
    exact ⟨hwf, by simp [lastWrite]⟩
  · exact exec_shadowAgrees (s := s.take rest) (hs.of_eq rfl rfl) hexec

end Sys2Proof.Machine

/-! ## The line carries 20-tick periods (41_show.md R146, 10_state.md R32) -/

namespace Sys2Proof.Machine

/-- A legal line with nothing in flight. -/
def LineQuiet (s : State) : Prop :=
  s.cfg.Valid ∧ (∀ x ∈ s.pwm.wire, x.high + x.low = 20) ∧ s.pwm.inFlight = none

section
variable {s t : State}

theorem LineQuiet.lineLegal (h : LineQuiet s) : LineLegal s := by
  obtain ⟨hv, hwire, hloan⟩ := h
  exact ⟨hv, hwire, fun hne => absurd hloan hne⟩

/-- A port that is not blocked has nothing in flight. -/
theorem LineLegal.quiet (h : LineLegal s) (hb : s.blocked = none) : LineQuiet s := by
  obtain ⟨hv, hwire, hloan⟩ := h
  exact ⟨hv, hwire, by simpa [hb] using hloan⟩

/-- A line that carries nothing more. -/
theorem LineQuiet.of_eq (h : LineQuiet s) (hcfg : t.cfg = s.cfg) (hwire : t.pwm.wire = s.pwm.wire)
    (hloan : t.pwm.inFlight = s.pwm.inFlight) : LineQuiet t := by
  unfold LineQuiet
  rw [hcfg, hwire, hloan]
  exact h

/-- A line that carries nothing more is legal, whatever the port does. -/
theorem LineQuiet.legal_of_eq (h : LineQuiet s) (hcfg : t.cfg = s.cfg) (hwire : t.pwm.wire = s.pwm.wire)
    (hloan : t.pwm.inFlight = s.pwm.inFlight) : LineLegal t :=
  (h.of_eq hcfg hwire hloan).lineLegal

/-- Periods of a buffer keep the line legal. -/
theorem LineQuiet.wire_append (h : LineQuiet s) {buf : Vector Code 98} {l : List BitPeriod}
    (hl : l ⊆ framePeriods s.cfg buf) : ∀ x ∈ s.pwm.wire ++ l, x.high + x.low = 20 := by
  obtain ⟨hv, hwire, -⟩ := h
  intro x hx
  obtain hx | hx := List.mem_append.1 hx
  · exact hwire x hx
  · exact framePeriods_ticks hv (hl hx)

/-- A load that failed or hangs leaves the first periods of the frame on the line, and nothing in flight. -/
theorem LineQuiet.afterLoad (h : LineQuiet s) (buf : Vector Code 98) {r : Reply PerErr} (hr : r ≠ .ok) :
    LineQuiet (s.afterLoad buf r) := by
  have hwire := h.wire_append (List.take_subset (Config.freeSent s.oracle.calls) (framePeriods s.cfg buf))
  obtain ⟨hv, -, hloan⟩ := h
  cases r with
  | ok => exact absurd rfl hr
  | err e => exact ⟨hv, hwire, hloan⟩
  | never => exact ⟨hv, hwire, hloan⟩

/-- A wait that returns leaves the whole frame on the line, and nothing in flight. -/
theorem LineQuiet.afterSplit (h : LineQuiet s) (buf : Vector Code 98) :
    LineQuiet ((s.afterLoad buf .ok).afterSplit .returns) := by
  have hwire := h.wire_append (List.Subset.refl (framePeriods s.cfg buf))
  obtain ⟨hv, -, -⟩ := h
  exact ⟨hv, hwire, rfl⟩

/-- A wait that hangs leaves the first periods of the frame on the line, and the port blocked in it. -/
theorem LineQuiet.splitHangs (h : LineQuiet s) (buf : Vector Code 98) :
    LineLegal (((s.afterLoad buf .ok).afterSplit .never).stall .pwmWaitAndSplit) := by
  have hwire := h.wire_append
    (List.take_subset (Config.freeSent (s.oracle.calls + 1)) (framePeriods s.cfg buf))
  obtain ⟨hv, -, -⟩ := h
  exact ⟨hv, hwire, fun _ => rfl⟩

/-- Setter calls that returned. -/
theorem LineQuiet.afterSetters (xs : List PwmSetting) (h : LineQuiet s) : LineQuiet (s.afterSetters xs) := by
  obtain ⟨hwire, hloan⟩ := Pwm.foldl_apply_line xs s.pwm
  exact h.of_eq (by simp) (by simpa using hwire) (by simpa using hloan)

/-- Only SHOW touches the line. -/
theorem exec_lineLegal {i : Instr} (hs : LineQuiet s) (h : exec i s = .next t) : LineLegal t := by
  have hfill : LineQuiet s.fillPulse := hs.of_eq rfl rfl rfl
  have hset : LineQuiet ((s.fillPulse.afterSetters (showSettings s.cfg)).setTx .transmitting) :=
    (hfill.afterSetters (showSettings s.cfg)).of_eq rfl rfl rfl
  have still : ∀ {t}, t.cfg = s.cfg → t.pwm = s.pwm → LineLegal t := fun hcfg hpwm =>
    hs.legal_of_eq hcfg (by rw [hpwm]) (by rw [hpwm])
  refine exec_elim (P := LineLegal) h
    ?pix ?bad ?all ?get ?unbound ?showSet ?showErr ?showLoad ?showSplit ?showOk ?servoBad ?servo ?motor ?ini
  case showSet =>
    intro _ _ _ pre x post _
    obtain ⟨hwire, hloan⟩ := Pwm.forget_line x (s.fillPulse.afterSetters pre).pwm
    exact (hfill.afterSetters pre).legal_of_eq rfl hwire hloan
  case showErr =>
    intro _ _ _ e
    rw [State.afterLoadError_eq]
    exact (hset.afterLoad _ (r := .err e) (by simp)).legal_of_eq rfl rfl rfl
  case showLoad => exact fun _ _ _ => (hset.afterLoad _ (r := .never) (by simp)).legal_of_eq rfl rfl rfl
  case showSplit => exact fun _ _ _ => hset.splitHangs _
  case showOk => exact fun _ _ _ => (hset.afterSplit _).legal_of_eq rfl rfl rfl
  case pix => exact fun _ _ _ _ _ => still rfl rfl
  case bad => exact fun _ _ _ _ _ => still rfl rfl
  case all => exact fun _ _ _ => still (by simp) (by simp)
  case get => exact fun _ _ => still rfl rfl
  case unbound => exact fun _ _ _ => still rfl rfl
  case servoBad => exact fun _ _ _ _ _ => still rfl rfl
  case servo => exact fun _ _ _ _ _ _ _ _ => ⟨still rfl rfl, fun _ => still rfl rfl, still rfl rfl⟩
  case motor => exact fun _ _ _ _ _ _ _ _ _ => ⟨still rfl rfl, fun _ => still rfl rfl, still rfl rfl⟩
  case ini =>
    exact fun _ _ _ _ _ _ => ⟨still rfl rfl, fun _ => still rfl rfl, still rfl rfl, fun _ => still rfl rfl,
      still rfl rfl⟩

end

/-- Settles O54: a step goes on from a free port only, where nothing is in flight. -/
theorem stepKeepsLineLegal : Obligations.StepKeepsLineLegal := by
  intro s t hs h
  obtain ⟨hb, ⟨w, -, rfl⟩ | ⟨-, -, rfl⟩ | ⟨rest, -, -, rfl⟩ | ⟨w, rest, i, -, -, -, hexec⟩⟩ := step_next_cases h
  · have hpwm : (finishDriveMotor w s).pwm = s.pwm := by rw [(finishDriveMotor_frame w s).1]
    exact (hs.quiet hb).legal_of_eq (finishDriveMotor_frame w s).1.cfg (by rw [hpwm]) (by rw [hpwm])
  · exact hs
  · exact (hs.quiet hb).legal_of_eq rfl rfl rfl
  · exact exec_lineLegal (s := s.take rest) ((hs.quiet hb).of_eq rfl rfl rfl) hexec

end Sys2Proof.Machine

/-! ## The events of a command follow its rule (20_memory.md R60) -/

namespace Sys2Proof.Machine

/-- Since `s` the calls `done` were made, and all were answered well. -/
def AnsweredWell (s u : State) (done : List Call) : Prop :=
  ∃ evs, u.history = s.history ++ evs ∧ evs.map Event.call = done ∧ ∀ e ∈ evs, e.answer.good = true

/-- The events since `s` are the planned calls, in order, up to the first that was not answered well. -/
def CallsFollow (planned : List Call) (s t : State) : Prop :=
  ∃ evs, t.history = s.history ++ evs ∧
    evs.map Event.call <+: planned ∧
    (∀ e ∈ evs.dropLast, e.answer.good = true) ∧
    ((∀ e ∈ evs, e.answer.good = true) → evs.map Event.call = planned)

section
variable {s t u : State} {done planned : List Call}

theorem AnsweredWell.start (h : u.history = s.history) : AnsweredWell s u [] :=
  ⟨[], by simp [h], rfl, by simp⟩

/-- One more call answered well. -/
theorem AnsweredWell.event {ev : Event} (h : AnsweredWell s u done) (hev : ev.answer.good = true)
    (hh : t.history = u.history ++ [ev]) : AnsweredWell s t (done ++ [ev.call]) := by
  obtain ⟨evs, hhist, hcalls, hgood⟩ := h
  refine ⟨evs ++ [ev], by simp [hh, hhist], by simp [hcalls], fun e he => ?_⟩
  obtain he | he := List.mem_append.1 he
  · exact hgood e he
  · rwa [List.mem_singleton.1 he]

theorem AnsweredWell.afterSetters (xs : List PwmSetting) (h : AnsweredWell s u done) :
    AnsweredWell s (u.afterSetters xs) (done ++ xs.map .pwmSet) := by
  induction xs generalizing u done with
  | nil => simpa [State.afterSetters] using h
  | cons x xs ih =>
    have hx := ih (h.event (ev := ⟨.pwmSet x, .returned⟩) (t := u.afterSetter x .returns) rfl rfl)
    simpa [State.afterSetters_cons] using hx

/-- All planned calls were made and answered well. -/
theorem CallsFollow.all (h : AnsweredWell s u planned) (hh : t.history = u.history) : CallsFollow planned s t := by
  obtain ⟨evs, hhist, hcalls, hgood⟩ := h
  exact ⟨evs, hh.trans hhist, by rw [hcalls], fun e he => hgood e (List.mem_of_mem_dropLast he), fun _ => hcalls⟩

/-- The last call was not answered well. -/
theorem CallsFollow.cut {ev : Event} (h : AnsweredWell s u done) (hev : ev.answer.good = false)
    (hplan : done ++ [ev.call] <+: planned) (hh : t.history = u.history ++ [ev]) : CallsFollow planned s t := by
  obtain ⟨evs, hhist, hcalls, hgood⟩ := h
  refine ⟨evs ++ [ev], by simp [hh, hhist], by simpa [hcalls] using hplan, by simpa using hgood, fun hall => ?_⟩
  have hlast := hall ev (by simp)
  simp [hev] at hlast

/-- An expander call answered Ok. -/
theorem AnsweredWell.exp_ok (c : ExpCall) (h : AnsweredWell s u done) :
    AnsweredWell s (u.afterExp c .ok) (done ++ [Call.exp c]) :=
  h.event (ev := ⟨.exp c, .ok⟩) rfl rfl

/-- An expander call answered Err or never. -/
theorem CallsFollow.exp_cut (c : ExpCall) {r : Reply ExpErr} (hr : r ≠ .ok) (h : AnsweredWell s u done)
    (hplan : done ++ [Call.exp c] <+: planned) (hh : t.history = (u.afterExp c r).history) :
    CallsFollow planned s t := by
  refine .cut (ev := ⟨.exp c, expAnswer r⟩) h ?_ hplan hh
  cases r with
  | ok => exact absurd rfl hr
  | _ => rfl

/-- The one or last call of a command: answered in any of the three ways, it ends the command. -/
theorem CallsFollow.exp_last (c : ExpCall) (h : AnsweredWell s u done) (hplan : done ++ [Call.exp c] = planned) :
    CallsFollow planned s ((u.afterExp c .ok).respond .ok) ∧
      (∀ e, CallsFollow planned s ((u.afterExp c (.err e)).raise (.mapper e))) ∧
      CallsFollow planned s ((u.afterExp c .never).stall (.exp c)) := by
  subst hplan
  exact ⟨.all (h.exp_ok c) rfl, fun e => .exp_cut c (r := .err e) (by simp) h List.prefix_rfl rfl,
    .exp_cut c (r := .never) (by simp) h List.prefix_rfl rfl⟩

/-- The settings and the load that SHOW plans before its wait. -/
def showCallsToLoad (s : State) : List Call :=
  (showSettings s.cfg).map .pwmSet ++ [Call.pwmLoad (encodeFrame s.cfg s.store) none true]

/-- SHOW with its five settings made. -/
theorem AnsweredWell.showConfigured (s : State) :
    AnsweredWell s (s.fillPulse.afterSetters (showSettings s.cfg)) ((showSettings s.cfg).map .pwmSet) := by
  have hfill : AnsweredWell s s.fillPulse [] := .start rfl
  exact hfill.afterSetters (showSettings s.cfg)

/-- SHOW with its frame loaded. -/
theorem AnsweredWell.showLoaded (s : State) :
    AnsweredWell s (((s.fillPulse.afterSetters (showSettings s.cfg)).setTx .transmitting).afterLoad
      (encodeFrame s.cfg s.store) .ok) (showCallsToLoad s) :=
  (AnsweredWell.showConfigured s).event (ev := ⟨.pwmLoad (encodeFrame s.cfg s.store) none true, .ok⟩) rfl rfl

/-- SHOW in Idle plans the wait last. -/
theorem plannedCalls_showFrame_split (hi : s.txState = .idle) :
    plannedCalls s .showFrame = showCallsToLoad s ++ [Call.pwmWaitAndSplit] := by
  rw [plannedCalls_showFrame_idle hi, showCallsToLoad, List.append_assoc]
  rfl

/-- The calls up to the load are the first that SHOW plans. -/
theorem showCallsToLoad_planned (hi : s.txState = .idle) : showCallsToLoad s <+: plannedCalls s .showFrame := by
  rw [plannedCalls_showFrame_split hi]
  exact List.prefix_append _ _

/-- A command that ends in its one step follows its rule. -/
theorem exec_callsFollow {i : Instr} (h : exec i s = .next t)
    (hmotor : ∀ m d v, i = .driveMotor m d v → t.pending = none) : CallsFollow (plannedCalls s i) s t := by
  have start : AnsweredWell s s [] := .start rfl
  revert hmotor
  refine exec_elim (P := fun t => (∀ m d v, i = .driveMotor m d v → t.pending = none) →
      CallsFollow (plannedCalls s i) s t) h
    ?pix ?bad ?all ?get ?unbound ?showSet ?showErr ?showLoad ?showSplit ?showOk ?servoBad ?servo ?motor ?ini
  case pix =>
    rintro p hp c rfl - -
    exact .all start rfl
  case bad =>
    rintro p c rfl - - -
    exact .all start rfl
  case all =>
    rintro c rfl - -
    exact .all start (by simp)
  case get =>
    rintro rfl - -
    exact .all start rfl
  case unbound =>
    rintro rfl - htx -
    rw [plannedCalls, htx]
    exact .all start rfl
  case showSet =>
    rintro rfl - hi pre x post hx -
    have hfill : AnsweredWell s s.fillPulse [] := .start rfl
    have hplan : plannedCalls s .showFrame = ([] ++ pre.map Call.pwmSet ++ [Call.pwmSet x]) ++ (post.map Call.pwmSet ++
        [Call.pwmLoad (encodeFrame s.cfg s.store) none true, .pwmWaitAndSplit]) := by
      rw [plannedCalls_showFrame_idle hi, hx]
      simp
    exact .cut (ev := ⟨.pwmSet x, .never⟩) (hfill.afterSetters pre) rfl
      (by rw [hplan]; exact List.prefix_append _ _) rfl
  case showErr =>
    rintro rfl - hi e -
    rw [State.afterLoadError_eq]
    exact .cut (ev := ⟨.pwmLoad (encodeFrame s.cfg s.store) none true, .perErr e⟩) (.showConfigured s) rfl
      (showCallsToLoad_planned hi) rfl
  case showLoad =>
    rintro rfl - hi -
    exact .cut (ev := ⟨.pwmLoad (encodeFrame s.cfg s.store) none true, .never⟩) (.showConfigured s) rfl
      (showCallsToLoad_planned hi) rfl
  case showSplit =>
    rintro rfl - hi -
    rw [plannedCalls_showFrame_split hi]
    exact .cut (ev := ⟨.pwmWaitAndSplit, .never⟩) (.showLoaded s) rfl List.prefix_rfl rfl
  case showOk =>
    rintro rfl - hi -
    rw [plannedCalls_showFrame_split hi]
    exact .all ((AnsweredWell.showLoaded s).event (ev := ⟨.pwmWaitAndSplit, .returned⟩) rfl rfl) rfl
  case servoBad =>
    rintro m d rfl - htick -
    simp [servoTick_eq] at htick
  case servo =>
    rintro m d n rfl - htick w rfl
    have hn := servoTick_tick htick
    subst hn
    obtain ⟨hok, herr, hnever⟩ :=
      CallsFollow.exp_last (planned := plannedCalls s (.moveServo m d)) (servoWrite s.cfg m d).call start rfl
    exact ⟨fun _ => hok, fun e _ => herr e, fun _ => hnever⟩
  case motor =>
    rintro m d v rfl - x y rfl rfl
    have hplan : [] ++ [Call.exp (motorFirst s.cfg m d v).call] <+: plannedCalls s (.driveMotor m d v) :=
      List.prefix_append _ [Call.exp (motorSecond s.cfg m d v).call]
    refine ⟨fun hp => ?_, fun e _ => .exp_cut _ (r := .err e) (by simp) start hplan rfl,
      fun _ => .exp_cut _ (r := .never) (by simp) start hplan rfl⟩
    simpa using hp m d v rfl
  case ini =>
    rintro rfl - x y rfl rfl
    have hplan : [] ++ [Call.exp (.new s.cfg.expanderAddr)] <+: plannedCalls s .init :=
      List.prefix_append _ [Call.exp (.setPrescale s.cfg.prescale50Hz)]
    have hnew := start.exp_ok (.new s.cfg.expanderAddr)
    obtain ⟨-, herr, hnever⟩ := CallsFollow.exp_last (planned := plannedCalls s .init)
      (.setPrescale s.cfg.prescale50Hz) hnew rfl
    exact ⟨fun _ => .all (hnew.exp_ok (.setPrescale s.cfg.prescale50Hz)) rfl,
      fun e _ => .exp_cut _ (r := .err e) (by simp) start hplan rfl,
      fun _ => .exp_cut _ (r := .never) (by simp) start hplan rfl, fun e _ => herr e, fun _ => hnever⟩

/-- The second write of DRIVE_MOTOR is the last call of the plan. -/
theorem finishDriveMotor_callsFollow (w : ChannelWrite) (h : AnsweredWell s u.takeWrite done)
    (hplan : done ++ [Call.exp w.call] = planned) : CallsFollow planned s (finishDriveMotor w u) := by
  obtain ⟨hok, herr, hnever⟩ := CallsFollow.exp_last w.call h hplan
  exact finishDriveMotor_elim (P := CallsFollow planned s) w u (fun _ => hok) (fun e _ => herr e) fun _ => hnever

end

/-- Settles O18, by the two ways a command can end. -/
theorem eventsFollowTheRuleOrder : Obligations.EventsFollowTheRuleOrder := by
  intro i s t hp h
  refine execWhole_cases (P := CallsFollow (plannedCalls s i) s) hp h
    (fun t ht hpt => exec_callsFollow ht fun _ _ _ _ => hpt) ?_
  rintro m d v rfl - -
  have start : AnsweredWell s s [] := .start rfl
  exact finishDriveMotor_callsFollow _ (start.exp_ok (motorFirst s.cfg m d v).call) rfl

end Sys2Proof.Machine

/-! ## SHOW again without a store write between (41_show.md R139, R144) -/

namespace Sys2Proof.Machine

/-- The seven events of a SHOW whose calls were all answered well. -/
def showEvents (cfg : Config) (store : Vector Byte 15) : List Event :=
  settingEvents cfg ++ [⟨.pwmLoad (encodeFrame cfg store) none true, .ok⟩, ⟨.pwmWaitAndSplit, .returned⟩]

/-- They are the calls that SHOW plans. -/
theorem showEvents_calls {s : State} (hi : s.txState = .idle) :
    (showEvents s.cfg s.store).map Event.call = plannedCalls s .showFrame := by
  rw [plannedCalls_showFrame_idle hi]
  rfl

/-- A SHOW that answered Ok ran to its last call. -/
theorem exec_showFrame_ok_inv {s t : State} (h : exec .showFrame s = .next t)
    (hr : t.responses = s.responses ++ [⟨0, .empty⟩]) :
    t.constructed = true ∧ t.txState = .idle ∧ t.pulse = encodeFrame s.cfg s.store ∧
      t.history = s.history ++ showEvents s.cfg s.store := by
  revert hr
  refine exec_elim (P := fun t => t.responses = s.responses ++ [⟨0, .empty⟩] →
      t.constructed = true ∧ t.txState = .idle ∧ t.pulse = encodeFrame s.cfg s.store ∧
        t.history = s.history ++ showEvents s.cfg s.store) h
    ?pix ?bad ?all ?get ?unbound ?showSet ?showErr ?showLoad ?showSplit ?showOk ?servoBad ?servo ?motor ?ini
  case showOk =>
    intro _ hc _ _
    refine ⟨by simpa using hc, rfl, by simp, ?_⟩
    simp [showEvents, settingEvents, loadAnswer, returnAnswer]
  case unbound =>
    intro _ _ _ hr
    simp [encodeResponse, wrapError] at hr
  case showSet =>
    intro _ _ _ pre x post _ hr
    simp at hr
  case showErr =>
    intro _ _ _ e hr
    simp [State.afterLoadError_eq, encodeResponse, wrapError] at hr
  case showLoad =>
    intro _ _ _ hr
    simp at hr
  case showSplit =>
    intro _ _ _ hr
    simp at hr
  all_goals (intros; contradiction)

/-- The word is no command that writes the store of a constructed block. -/
def WritesNoStore (w : Word) : Prop :=
  (∀ p c, decode w ≠ .ok (.setPixel p c)) ∧ ∀ c, decode w ≠ .ok (.setAllPixels c)

/-- The block is constructed and has the configuration and the store of `s`, and the host offers neither a
reset nor a command that writes the store. -/
def StoreKept (s u : State) : Prop :=
  u.cfg = s.cfg ∧ u.store = s.store ∧ u.constructed = true ∧ OffersOnly WritesNoStore u

/-- INIT is refused, and no other command that is offered writes the store. -/
theorem step_keeps_storeKept (s u v : State) (hu : StoreKept s u) (h : step u = .next v) : StoreKept s v := by
  obtain ⟨hcfg, hstore, hc, hoffer⟩ := hu
  have hcv : v.constructed = true := (step_keepsLoan h hc hoffer.no_reset).1
  refine ⟨(configurationIsNeverWritten u v h).trans hcfg, Eq.trans ?_ hstore, hcv, hoffer.step h⟩
  obtain ⟨-, ⟨w, -, rfl⟩ | ⟨-, -, rfl⟩ | ⟨rest, -, hi, -⟩ | ⟨w, rest, i, -, hi, hd, hexec⟩⟩ := step_next_cases h
  · exact (finishDriveMotor_frame w u).1.store
  · rfl
  · exact absurd hi (hoffer.no_reset rest)
  · obtain ⟨hpix, hall⟩ := hoffer.head hi
    have hinit : i ≠ .init := by
      rintro rfl
      rw [exec_init_constructed (s := u.take rest) hc] at hexec
      contradiction
    obtain ⟨-, hbytes, -⟩ := exec_writesOnlyItsRow hexec
    refine Vector.ext fun k hk => hbytes ⟨k, hk⟩ hinit (fun c hic => hall c (hic ▸ hd)) fun p c hic => ?_
    exact absurd (hic ▸ hd) (hpix p c)

/-- Settles O38: the run keeps configuration and store, and from these SHOW has its plan and its events. -/
theorem showAgainSendsTheSameFrame : Obligations.ShowAgainSendsTheSameFrame := by
  intro s t hi h hr
  obtain ⟨hc, htx, hpulse, hhist⟩ := exec_showFrame_ok_inv h hr
  have hstore : t.store = s.store := by rw [exec_showFrame_frame h]
  have hcfg : t.cfg = s.cfg := exec_cfg h
  refine ⟨htx, hstore, hpulse, showEvents s.cfg s.store, hhist, showEvents_calls hi, fun n ws u hws hrun hiu => ?_⟩
  obtain ⟨hcfgu, hstoreu, hcu, -⟩ := run_invariant (step_keeps_storeKept s) n
    (s := { t with inbox := ws.map .command }) ⟨hcfg, hstore, hc, ws, rfl, hws⟩ hrun
  obtain ⟨v, hv⟩ := acceptedCommandsAnswerNext .showFrame u (by simp [hcu])
  obtain ⟨evs, hevs, hfirst, -⟩ := exec_callsFollow hv (by simp)
  refine ⟨v, evs, hv, hevs, ?_, fun hrv => ?_⟩
  · rwa [← hcfgu, ← hstoreu, showEvents_calls hiu]
  · obtain ⟨-, -, -, hhistv⟩ := exec_showFrame_ok_inv hv hrv
    rw [← hcfgu, ← hstoreu]
    exact List.append_cancel_left (hevs.symm.trans hhistv)

end Sys2Proof.Machine
